-- ==== Sys2Proof/Word.lean ====
section
/-! DEFINITION. The two word sizes of the block: 8-bit device registers and 16-bit words (rules R9, R52). Bit 0 is the
least significant bit (rule R9). -/

namespace Sys2Proof

/-- 8 bits: every device register but the data register (rule R52). -/
abbrev Byte := BitVec 8

/-- 16 bits: the data register, a host register and a host command word (rules R52, R70, R74). -/
abbrev Word := BitVec 16

end Sys2Proof
end

