-- ==== Sys2Proof/Machine/Ports.lean ====
section
/-! DEFINITION. What passes through the block's ports: the device registers (rule R80), the six Device Status values and
the eight Error Flags (rule R13), the refusal reasons (rule R212), the diagnostic events (rule R217), and the events of
the trace (rule R223). -/

namespace Sys2Proof.Machine

/-- The eight device registers by address (rule R80). Two addresses have a meaning that depends on the direction
(rule R59): `errorFeatures` reads as ERROR and writes as FEATURES, `statusCommand` reads as STATUS and writes as
COMMAND. The alternate-status/device-control register has no place here (rule R61). -/
inductive DevReg where
  | data | errorFeatures | sectorCount | sectorNumber | cylLow | cylHigh | driveHead | statusCommand
  deriving DecidableEq, Repr

/-- The index column of rule R80. -/
def DevReg.index : DevReg → Nat
  | .data => 0
  | .errorFeatures => 1
  | .sectorCount => 2
  | .sectorNumber => 3
  | .cylLow => 4
  | .cylHigh => 5
  | .driveHead => 6
  | .statusCommand => 7

/-- The one width, in bytes, at which the block accesses a register (rule R52). -/
def DevReg.bytes : DevReg → Nat
  | .data => 2
  | .errorFeatures => 1
  | .sectorCount => 1
  | .sectorNumber => 1
  | .cylLow => 1
  | .cylHigh => 1
  | .driveHead => 1
  | .statusCommand => 1

/-- Device Status: the six names of rule R13, in the source's listing order (rule R84). -/
inductive DeviceStatus where
  | ready | notPresent | busy | error | fault | notReady
  deriving DecidableEq, Repr

/-- The eight Error Flags of rules R13 and R82. -/
inductive ErrorFlag where
  | noAddressMark | track0NotFound | aborted | mediaChangeRequest
  | idMarkNotFound | mediaChanged | uncorrectableData | badBlock
  deriving DecidableEq, Repr

/-- The closed list of refusal reasons (rule R212). A refusal is a mark in the state and an event of the trace; the
machine goes on (rule R211). -/
inductive RefuseReason where
  | illegalCommand | commandWhileActive | reportErrorWithoutError
  | identifyWithoutDetect | hostWriteNotCmd | hostReadUnmapped
  deriving DecidableEq, Repr

/-- The content of a FieldsReport event (rules R176, R179 to R187). A string is the extracted copy of rule R181, its
forced terminator included. -/
structure FieldsReport where
  genconf : Word
  removable : Bool
  fixed : Bool
  cylinders : Word
  heads : Word
  sectors : Word
  serial : List Byte
  firmware : List Byte
  model : List Byte
  lbaSupported : Bool
  dmaSupported : Bool
  lba28Total : BitVec 32
  lba48Supported : Bool
  deriving DecidableEq, Repr

/-- The diagnostic events, "exactly these events and no others" (rule R217). They carry no text and no severity tier. -/
inductive Diagnostic where
  | busyIteration
  | errorFlag (f : ErrorFlag)
  | errorNoFlags
  | fieldsReport (r : FieldsReport)
  | dumpRequest (bytes : List Byte)
  deriving DecidableEq, Repr

/-- One event of the trace: device accesses, settles, delay requests and completions, emitted events (rule R223), and
refusals (rule R211). `n` is the access's width in bytes; an 8-bit value stands zero-extended in `v`. -/
inductive Event where
  | memRead (r : DevReg) (n : Nat) (v : Word)
  | memWrite (r : DevReg) (n : Nat) (v : Word)
  | settle (atLeastNs : Nat)
  | delayRequest (seconds microseconds : Nat)
  | delayDone
  | emit (d : Diagnostic)
  | refused (reason : RefuseReason)
  deriving DecidableEq, Repr

end Sys2Proof.Machine
end

