-- ==== Sys2Proof/Config.lean ====
section
/-! DEFINITION. What the spec leaves open, as constants without a body: the open parameters of rule R7 and the behaviour
of the two agents the block waits on. Nothing can be proved about their values. -/

namespace Sys2Proof

open Sys2Proof.Machine

/-- The parameter `DEVICE` (rules R7, R219): what the device answers a read of a register after a history of events
(newest first). A FREE VALUE: it answers a read for which `State.draws` lists nothing (log entry 3). -/
opaque Config.deviceAnswer : List Event → DevReg → Word

/-- The delay collaborator (rule R214): after a history of events, for how many turns of the block in `DD_WAIT` the
request just made goes on, `none` if it never completes. A FREE VALUE: it serves a request for which `State.delays` lists
nothing (log entry 4). -/
opaque Config.delayTurns : List Event → Option Nat

/-- `T_SETTLE` in nanoseconds above the least value the source allows, 1 microsecond (rule R7; log entry 12). -/
opaque Config.tSettleExtraNs : Nat

/-- `LOG_POST_BUSY` (rules R7, R173). -/
opaque Config.logPostBusy : Bool

/-- `GC_REMOVABLE_BIT` (rules R7, R179). -/
opaque Config.gcRemovableBit : Fin 16

/-- `GC_FIXED_BIT` (rules R7, R179). -/
opaque Config.gcFixedBit : Fin 16

/-- `DEV_BASE` (rules R7, R60). -/
opaque Config.devBase : Nat

/-- `DEV_STRIDE` (rules R7, R60). -/
opaque Config.devStride : Nat

end Sys2Proof
end

