-- ==== Sys2Proof/Machine/Params.lean ====
section
/-! DEFINITION. The parameters of rule R7: those the source fixes are constants, those it leaves open are the fields of
`Params`, which a state carries unchanged (rule R40). -/

namespace Sys2Proof.Machine

/-- `BUDGET(d)`: 5 attempts for drive 0, 1 for drive 1 (rules R7, R141; conflict C3). -/
def budgetOf (d : BitVec 1) : Nat := if d = 0#1 then 5 else 1

/-- `T_BACKOFF` in whole seconds (rules R7, R145). -/
def backoffSeconds : Nat := 1

/-- `T_BACKOFF`, the microseconds beside the whole seconds (rules R7, R145). -/
def backoffMicroseconds : Nat := 0

/-- `RB_VALUE_1` (rules R7, R147). -/
def rbValue1 : Byte := 0x12#8

/-- `RB_VALUE_2` (rules R7, R147). -/
def rbValue2 : Byte := 0x34#8

/-- `CMD_IDENTIFY`, the one ATA command code the block writes (rules R7, R83). -/
def cmdIdentify : Byte := 0xEC#8

/-- `SEL_FIXED`, bits 7 and 5 of the drive-select byte (rules R7, R79). -/
def selFixed : Byte := 0xA0#8

/-- `IDENT_WORDS` (rule R7). -/
abbrev identWords : Nat := 256

/-- The default of `N_DISCARD` (rule R7). -/
def nDiscardDefault : Nat := 15

/-- The open parameters of rule R7. `tSettleNs` is `T_SETTLE` in nanoseconds (log entry 12). -/
structure Params where
  nDiscard : Nat
  tSettleNs : Nat
  logPostBusy : Bool
  gcRemovableBit : Fin 16
  gcFixedBit : Fin 16
  devBase : Nat
  devStride : Nat
  deriving DecidableEq, Repr

/-- The parameters a run from reset takes: the default the spec names, and the open constants (log entry 5). -/
def Params.initial : Params where
  nDiscard := nDiscardDefault
  tSettleNs := 1000 + Config.tSettleExtraNs
  logPostBusy := Config.logPostBusy
  gcRemovableBit := Config.gcRemovableBit
  gcFixedBit := Config.gcFixedBit
  devBase := Config.devBase
  devStride := Config.devStride

/-- The physical bus address of a device register (rule R60). No rule of the block depends on it. -/
def Params.devAddr (p : Params) (r : DevReg) : Nat := p.devBase + p.devStride * r.index

end Sys2Proof.Machine
end

