-- ==== Sys2Proof/Syntax.lean ====
section
/-! DEFINITION. The instructions: one constructor per row of spec/opcode_table.json. Four are host commands (rules R2,
R71). The fifth is the ATA command the block itself gives the device (rules R2, R83). -/

namespace Sys2Proof

/-- One constructor per row of the opcode table. -/
inductive Instr where
  /-- POLL_STATUS (rule R106). -/
  | pollStatus
  /-- REPORT_ERROR (rule R125). -/
  | reportError
  /-- DETECT_DRIVE with its 8-bit operand (rules R72, R149). -/
  | detectDrive (driveIndex : Byte)
  /-- IDENTIFY_DEVICE (rule R190). -/
  | identifyDevice
  /-- ATA_IDENTIFY_DEVICE: the byte 0xEC the block writes to the device's command register (rules R83, R172). -/
  | ataIdentifyDevice
  deriving DecidableEq, Repr

/-- The instruction's name in the opcode table and in the assembler syntax of rule R87. -/
def Instr.mnemonic : Instr → String
  | .pollStatus => "POLL_STATUS"
  | .reportError => "REPORT_ERROR"
  | .detectDrive _ => "DETECT_DRIVE"
  | .identifyDevice => "IDENTIFY_DEVICE"
  | .ataIdentifyDevice => "ATA_IDENTIFY_DEVICE"

end Sys2Proof
end

