-- ==== Sys2Proof/WellFormed.lean ====
section
/-! DEFINITION. Well-formedness. An instruction needs no check: its one operand is an 8-bit field and every value of it is
legal (rules R72, R87). The parameters of a machine need two (rule R7). -/

namespace Sys2Proof

/-- Every term of `Instr` is an instruction the spec gives: `driveIndex` is 8 bits wide and all its values are accepted
(rule R72), and the other instructions have no operand (rule R71). -/
def Instr.wf : Instr → Bool
  | .pollStatus => true
  | .reportError => true
  | .detectDrive _ => true
  | .identifyDevice => true
  | .ataIdentifyDevice => true

/-- `N_DISCARD >= 15` and `T_SETTLE >= 1 µs` (rule R7). The two bit positions are in 0..15 by their type. -/
def Machine.Params.wf (p : Machine.Params) : Bool :=
  decide (15 ≤ p.nDiscard) && decide (1000 ≤ p.tSettleNs)

end Sys2Proof
end

