-- ==== Sys2Proof/Decode.lean ====
section
/-! DEFINITION. The host command word (rules R70 to R73, R86) and the device command byte (rule R83): a decoder that is
total and rejects by name, then an encoder written from the same tables. -/

namespace Sys2Proof

/-- The two kinds of encoded instruction: a 16-bit word the host writes to CMD (rule R70), and the byte the block writes
to the device's command register (rule R83). -/
inductive Code where
  | host (cmd : Word)
  | device (code : Byte)
  deriving DecidableEq, Repr

/-- Why a code is no instruction (rules R73, R83). -/
inductive Illegal where
  /-- `rsv != 0` (rule R73). -/
  | reservedNotZero
  /-- `op = 0x0` or `op` in `0x5 .. 0xF` (rule R73). -/
  | opUnassigned
  /-- `op` in {0x1, 0x2, 0x4} and `arg != 0` (rule R73). -/
  | argNotZero
  /-- An ATA command code other than 0xEC, which the block never writes (rule R83). -/
  | ataNotIssued
  deriving DecidableEq, Repr

/-- `cmd[3:0]`, the operation code (rule R70). -/
def cmdOp (cmd : Word) : BitVec 4 := cmd.extractLsb' 0 4

/-- `cmd[7:4]`, reserved (rule R70). -/
def cmdRsv (cmd : Word) : BitVec 4 := cmd.extractLsb' 4 4

/-- `cmd[15:8]`, the operand (rule R70). -/
def cmdArg (cmd : Word) : Byte := cmd.extractLsb' 8 8

/-- The three operations that take no operand need `arg = 0` (rule R71). -/
def withoutArg (cmd : Word) (i : Instr) : Except Illegal Instr :=
  if cmdArg cmd = 0#8 then .ok i else .error .argNotZero

/-- The decoder of a host command word, by rules R71 and R73 alone (rule R86). -/
def decodeHost (cmd : Word) : Except Illegal Instr :=
  if cmdRsv cmd = 0#4 then
    if cmdOp cmd = 0x1#4 then withoutArg cmd .pollStatus
    else if cmdOp cmd = 0x2#4 then withoutArg cmd .reportError
    else if cmdOp cmd = 0x3#4 then .ok (.detectDrive (cmdArg cmd))
    else if cmdOp cmd = 0x4#4 then withoutArg cmd .identifyDevice
    else .error .opUnassigned
  else .error .reservedNotZero

/-- The decoder of a device command byte (rule R83). -/
def decodeDevice (code : Byte) : Except Illegal Instr :=
  if code = 0xEC#8 then .ok .ataIdentifyDevice else .error .ataNotIssued

/-- The decoder, total on every code. -/
def decode : Code → Except Illegal Instr
  | .host cmd => decodeHost cmd
  | .device code => decodeDevice code

/-- The illegal command words, as rule R73 lists them. -/
def illegal (cmd : Word) : Bool :=
  decide ((cmdOp cmd).toNat = 0) ||
  decide (5 ≤ (cmdOp cmd).toNat) ||
  decide (cmdRsv cmd ≠ 0#4) ||
  (decide ((cmdOp cmd).toNat = 1 ∨ (cmdOp cmd).toNat = 2 ∨ (cmdOp cmd).toNat = 4) && decide (cmdArg cmd ≠ 0#8))

/-- A host command word from its fields: `arg` in bits 15:8, `rsv = 0` in bits 7:4, `op` in bits 3:0 (rule R70). -/
def hostWord (op : BitVec 4) (arg : Byte) : Word := arg ++ 0#4 ++ op

/-- The encoder, from rule R87's words and rule R83's code. -/
def encode : Instr → Code
  | .pollStatus => .host (hostWord 0x1#4 0#8)
  | .reportError => .host (hostWord 0x2#4 0#8)
  | .detectDrive driveIndex => .host (hostWord 0x3#4 driveIndex)
  | .identifyDevice => .host (hostWord 0x4#4 0#8)
  | .ataIdentifyDevice => .device 0xEC#8

/-- The code of a row of spec/opcode_table.json: host commands have 16 bits, the device command 8. -/
def tableCode (nbits w : Nat) : Option Code :=
  if nbits = 16 then some (.host (BitVec.ofNat 16 w))
  else if nbits = 8 then some (.device (BitVec.ofNat 8 w))
  else none

/-- The instruction the decoder reads from an opcode-table word of `nbits` bits. -/
def decodeTableWord (nbits w : Nat) : Option Instr :=
  match tableCode nbits w with
  | none => none
  | some c =>
    match decode c with
    | .ok i => some i
    | .error _ => none

end Sys2Proof
end

