-- ==== Sys2Proof/Machine/State.lean ====
section
/-! DEFINITION. The state: every element of rules R21 to R35, and as plain data the agents the block works with (rule
R220): the host's coming actions, the device's registers and coming answers, the delay collaborator, and the trace. -/

namespace Sys2Proof.Machine

/-- The values of `s.fsm`, in the order of rule R22's table. -/
inductive Fsm where
  | idle
  | psRead | psSettle | psAuth | psDone
  | erRead | erEmit | erDone
  | ddSelect | ddEval | ddBackoff | ddWait | ddRbW1 | ddRbR1 | ddRbW2 | ddRbR2 | ddDone
  | idPreLog | idCmd | idPostLog | idXfer | idFields | idDump | idDone
  deriving DecidableEq, Repr

/-- The values of `s.op` (rule R23). -/
inductive Op where
  | none | pollStatus | reportError | detectDrive | identifyDevice
  deriving DecidableEq, Repr

/-- The values of `s.ps_ctx` (rule R24). -/
inductive PsCtx where
  | host | detect | idPre | idPost
  deriving DecidableEq, Repr

/-- The values of `s.er_ctx` (rule R26). -/
inductive ErCtx where
  | host | ident
  deriving DecidableEq, Repr

/-- The registers of the device agent, as the block's writes leave them, each under its write name (rules R80, R150).
What a read returns is not taken from here (rule R219). -/
structure DeviceRegs where
  data : Word
  features : Byte
  sectorCount : Byte
  sectorNumber : Byte
  cylLow : Byte
  cylHigh : Byte
  driveHead : Byte
  command : Byte
  deriving DecidableEq, Repr

/-- What the outside does to the block: the host's accesses to the host register space (rules R51, R66), the host action
WAITIDLE (rule R87), a turn left to the block, and the reset input (rule R240). -/
inductive HostAction where
  /-- The host writes `v` to host address `a`. -/
  | write (a : Nat) (v : Word)
  /-- The host reads host address `a`. -/
  | read (a : Nat)
  /-- The host reads CSR until `ACTIVE = 0` (rule R87). -/
  | waitIdle
  /-- The host lets the block take one step (rule R221). -/
  | pass
  /-- The reset input is asserted (rule R240). -/
  | reset
  deriving DecidableEq, Repr

/-- Faults, raised only in states that no run reaches (log entry 9); safe: the machine stops where the spec has no value to
go on with. -/
inductive Fault where
  /-- Raised by `ER_EMIT` when an error byte other than 0 has no set bit at or above `s.er_i` (rule R122 takes the least
  such bit). Safe. -/
  | noErrorBitLeft
  /-- Raised by `ID_XFER` when `s.xfer_k` is no index of `s.ident_w` (rules R33, R175). Safe. -/
  | identIndexOutOfRange
  deriving DecidableEq, Repr

/-- Refusals of the model to give an instruction a meaning. The refusals of rule R212 are not among them: they have an
effect, so they are next states (log entry 8). -/
inductive Refusal where
  /-- Raised by `exec` for an instruction without a meaning; no instruction of this model is one. Safe. -/
  | notModelled (mnemonic : String)
  deriving DecidableEq, Repr

/-- The whole state. -/
structure State where
  /-- `s.fsm` (rules R21, R22). -/
  fsm : Fsm
  /-- `s.op` (rule R23). -/
  op : Op
  /-- `s.ps_ctx` (rule R24). -/
  psCtx : PsCtx
  /-- `s.ps_count`, in 0 .. `N_DISCARD` (rule R25). -/
  psCount : Nat
  /-- `s.er_ctx` (rule R26). -/
  erCtx : ErCtx
  /-- `s.er_i`, in 0 .. 8 (rule R26). -/
  erI : Nat
  /-- `s.raw_status` (rule R27). -/
  rawStatus : Byte
  /-- `s.last_class` (rule R28). -/
  lastClass : DeviceStatus
  /-- `s.class_valid` (rule R28). -/
  classValid : Bool
  /-- `s.err_flags` (rule R29). -/
  errFlags : Byte
  /-- `s.err_valid` (rule R29). -/
  errValid : Bool
  /-- `s.sel_drive` (rule R30). -/
  selDrive : BitVec 1
  /-- `s.budget`, in 1 .. 5 (rule R31). -/
  budget : Nat
  /-- `s.attempts`, in 0 .. 5 (rule R31). -/
  attempts : Nat
  /-- `s.detect_ok` (rule R32). -/
  detectOk : Bool
  /-- `s.detected` (rule R32). -/
  detected : Bool
  /-- `s.ident_w[0..255]` (rule R33). -/
  identW : Vector Word 256
  /-- `s.xfer_k`, in 0 .. 256 (rule R34). -/
  xferK : Nat
  /-- `s.ident_valid` (rule R34). -/
  identValid : Bool
  /-- `s.refused` (rule R35). -/
  refused : Bool
  /-- The open parameters of this machine, which no step changes (rules R7, R40; log entry 5). -/
  params : Params
  /-- The trace of events, newest first (rules R58, R211, R223). -/
  trace : List Event
  /-- The device agent's registers (rule R150). -/
  device : DeviceRegs
  /-- The device's answers to the coming reads, in order; the model's own field (rules R10, R219; log entry 3). -/
  draws : List Word
  /-- How long each coming delay request goes on, in turns of the block; the model's own field (rule R214; log entry 4). -/
  delays : List (Option Nat)
  /-- For how many turns the delay request in flight goes on, `none` if it never completes; the model's own field (rule
  R214; log entry 4). -/
  delayLeft : Option Nat
  /-- What the outside does next, in order; the model's own field (rules R220, R221; log entry 1). -/
  host : List HostAction
  /-- What the host has read, newest first, as host address and value; the model's own field (rule R66; log entry 11). -/
  hostLog : List (Nat × Word)
  deriving DecidableEq, Repr

/-- The state right after reset (rules R39, R241). Where rule R39 says "unspecified", the value is the one log entry 6
names. -/
def State.reset : State where
  fsm := .idle
  op := .none
  psCtx := .host
  psCount := 0
  erCtx := .host
  erI := 0
  rawStatus := 0#8
  lastClass := .ready
  classValid := false
  errFlags := 0#8
  errValid := false
  selDrive := 0#1
  budget := 5
  attempts := 0
  detectOk := false
  detected := false
  identW := Vector.replicate 256 0#16
  xferK := 0
  identValid := false
  refused := false
  params := Params.initial
  trace := []
  device := ⟨0#16, 0#8, 0#8, 0#8, 0#8, 0#8, 0#8, 0#8⟩
  draws := []
  delays := []
  delayLeft := none
  host := []
  hostLog := []

end Sys2Proof.Machine
end

