-- ==== Sys2Proof/Machine/Operands.lean ====
section
/-! DEFINITION. Operand forms and byte helpers: the drive index (rule R72), the drive-select byte (rule R79), the two
halves of a word (rule R9), and the word and byte views of the identify buffer (rules R33, R54). -/

namespace Sys2Proof.Machine

/-- `lo8(w) = w[7:0]` (rule R9). -/
def lo8 (w : Word) : Byte := w.extractLsb' 0 8

/-- `hi8(w) = w[15:8]` (rule R9). -/
def hi8 (w : Word) : Byte := w.extractLsb' 8 8

/-- `zext_16` of a byte (rule R9). -/
def zext16 (b : Byte) : Word := b.setWidth 16

/-- `d = driveIndex & 1`; the other bits are ignored (rule R72). -/
def driveOf (driveIndex : Byte) : BitVec 1 := driveIndex.extractLsb' 0 1

/-- The drive-select byte `sel(d) = SEL_FIXED | (d << 4)` (rule R79). -/
def selByte (d : BitVec 1) : Byte := selFixed ||| (d.setWidth 8 <<< 4)

/-- `W[k]`, word `k` of an identify buffer (rule R33); there is none at 256 and above. -/
def wordAt (w : Vector Word 256) (k : Nat) : Word := w[k]?.getD 0#16

/-- `B[a]`, byte `a` of the 512-byte view: each word's low byte first (rule R54, conflict C1). -/
def byteAt (w : Vector Word 256) (a : Nat) : Byte :=
  if a % 2 = 0 then lo8 (wordAt w (a / 2)) else hi8 (wordAt w (a / 2))

/-- `B[0..511]` (rule R54). -/
def byteView (w : Vector Word 256) : List Byte := (List.range 512).map (byteAt w)

end Sys2Proof.Machine
end

