-- ==== Sys2Proof/Machine/Fields.lean ====
section
/-! DEFINITION. The field views of the identify buffer (rules R178 to R189): pure functions of its 256 words. -/

namespace Sys2Proof.Machine

/-- `str(base, n)` (rule R181): the low byte of each word, then its high byte, then the forced terminator. -/
def strField (w : Vector Word 256) (base n : Nat) : List Byte :=
  (List.range n).flatMap (fun j => [lo8 (wordAt w (base + j)), hi8 (wordAt w (base + j))]) ++ [0x00#8]

/-- `display(out)` (rule R181): the bytes before the first 0x00. -/
def display (out : List Byte) : List Byte := out.takeWhile (fun b => decide (b ≠ 0x00#8))

/-- `genconf = W[0]` (rule R179). -/
def genconf (w : Vector Word 256) : Word := wordAt w 0

/-- `removable = W[0][GC_REMOVABLE_BIT]` (rule R179). -/
def removable (p : Params) (w : Vector Word 256) : Bool := (wordAt w 0).getLsbD p.gcRemovableBit.val

/-- `fixed = W[0][GC_FIXED_BIT]` (rule R179). -/
def fixedMedia (p : Params) (w : Vector Word 256) : Bool := (wordAt w 0).getLsbD p.gcFixedBit.val

/-- `cylinders = W[1]` (rule R180). -/
def cylinders (w : Vector Word 256) : Word := wordAt w 1

/-- `heads = W[3]` (rule R180). -/
def heads (w : Vector Word 256) : Word := wordAt w 3

/-- `sectors = W[6]` (rule R180). -/
def sectors (w : Vector Word 256) : Word := wordAt w 6

/-- `serial = str(10, 10)` (rule R182). -/
def serial (w : Vector Word 256) : List Byte := strField w 10 10

/-- `firmware = str(23, 4)` (rule R183). -/
def firmware (w : Vector Word 256) : List Byte := strField w 23 4

/-- `model = str(27, 20)` (rule R184). -/
def model (w : Vector Word 256) : List Byte := strField w 27 20

/-- `caps = W[49]` (rule R185). -/
def caps (w : Vector Word 256) : Word := wordAt w 49

/-- `lbaSupported = W[49][9]` (rule R185). -/
def lbaSupported (w : Vector Word 256) : Bool := (wordAt w 49).getLsbD 9

/-- `dmaSupported = W[49][8]` (rule R185). -/
def dmaSupported (w : Vector Word 256) : Bool := (wordAt w 49).getLsbD 8

/-- `lba28Total = (zext_32(W[61]) << 16) | zext_32(W[60])`, with no 28-bit mask (rule R186, conflict C9). -/
def lba28Total (w : Vector Word 256) : BitVec 32 :=
  ((wordAt w 61).setWidth 32 <<< 16) ||| (wordAt w 60).setWidth 32

/-- `cmdset83 = W[83]` (rule R187). -/
def cmdset83 (w : Vector Word 256) : Word := wordAt w 83

/-- `lba48Supported = W[83][10]` (rule R187). -/
def lba48Supported (w : Vector Word 256) : Bool := (wordAt w 83).getLsbD 10

/-- The content of the FieldsReport event (rule R176). -/
def fieldsOf (p : Params) (w : Vector Word 256) : FieldsReport where
  genconf := genconf w
  removable := removable p w
  fixed := fixedMedia p w
  cylinders := cylinders w
  heads := heads w
  sectors := sectors w
  serial := serial w
  firmware := firmware w
  model := model w
  lbaSupported := lbaSupported w
  dmaSupported := dmaSupported w
  lba28Total := lba28Total w
  lba48Supported := lba48Supported w

end Sys2Proof.Machine
end

