-- ==== Sys2Proof/Machine/Flags.lean ====
section
/-! DEFINITION. The flag computations: the classification of a status byte (rule R100), its number in CSR (rule R84), and
the decoding of an error byte (rules R82, R120, R122). -/

namespace Sys2Proof.Machine

/-- Status bit 7, Busy (rule R81). -/
def bsy (b : Byte) : Bool := b.getLsbD 7

/-- Status bit 6, DriveReady (rule R81). -/
def drdy (b : Byte) : Bool := b.getLsbD 6

/-- Status bit 5, DriveFault (rule R81). -/
def df (b : Byte) : Bool := b.getLsbD 5

/-- Status bit 0, Error (rule R81). -/
def err (b : Byte) : Bool := b.getLsbD 0

/-- `classify` (rule R100): the first case that holds gives the result. -/
def classify (b : Byte) : DeviceStatus :=
  if bsy b = false ∧ drdy b = false then .notReady
  else if bsy b = true ∧ drdy b = true then .notPresent
  else if bsy b = true then .busy
  else if err b = true then .error
  else if df b = true then .fault
  else .ready

/-- `enc`, the number of a Device Status in `CSR.LAST_CLASS` (rule R84). -/
def statusCode : DeviceStatus → BitVec 3
  | .ready => 0#3
  | .notPresent => 1#3
  | .busy => 2#3
  | .error => 3#3
  | .fault => 4#3
  | .notReady => 5#3

/-- `flag(i)` (rules R82, R120). -/
def flagOf : Fin 8 → ErrorFlag
  | 0 => .noAddressMark
  | 1 => .track0NotFound
  | 2 => .aborted
  | 3 => .mediaChangeRequest
  | 4 => .idMarkNotFound
  | 5 => .mediaChanged
  | 6 => .uncorrectableData
  | 7 => .badBlock

/-- The bit positions of an error byte, ascending. -/
def errorBits : List (Fin 8) := [0, 1, 2, 3, 4, 5, 6, 7]

/-- `decodeError` (rule R120): the flags whose bits are set, listed in ascending bit order. -/
def decodeError (e : Byte) : List ErrorFlag :=
  (errorBits.filter fun i => e.getLsbD i.val).map flagOf

/-- The least `i` with `start <= i <= 7` and `e[i] = 1`, if there is one (rule R122). -/
def nextErrorBit (e : Byte) (start : Nat) : Option (Fin 8) :=
  errorBits.find? fun i => decide (start ≤ i.val) && e.getLsbD i.val

end Sys2Proof.Machine
end

