-- ==== Sys2Proof/Machine/HostMap.lean ====
section
/-! DEFINITION. The host register map (rules R74 to R78): what a host read returns. A gated register reads 0 while its
valid bit is 0 (rule R74). -/

namespace Sys2Proof.Machine

/-- `ACTIVE = (s.fsm != IDLE)` (rule R23). -/
def State.active (s : State) : Bool := decide (s.fsm ≠ .idle)

/-- A field or register that reads 0 while its valid bit is 0 (rule R74). -/
def gate {w : Nat} (valid : Bool) (v : BitVec w) : BitVec w := if valid then v else 0#w

/-- A field of a host register, its lowest bit at position `lo` (rule R9). -/
def field {w : Nat} (lo : Nat) (v : BitVec w) : Word := v.setWidth 16 <<< lo

/-- A one-bit field of a host register. -/
def flag (lo : Nat) (b : Bool) : Word := field lo (BitVec.ofBool b)

/-- `CSR` (rule R75); bit 15 reads 0. -/
def csr (s : State) : Word :=
  flag 0 s.active |||
  flag 1 s.refused |||
  flag 2 s.classValid |||
  field 3 (gate s.classValid (statusCode s.lastClass)) |||
  flag 6 s.detectOk |||
  flag 7 s.detected |||
  flag 8 s.errValid |||
  flag 9 (s.errValid && decide (s.errFlags = 0#8)) |||
  flag 10 s.identValid |||
  field 11 (gate s.detected s.selDrive) |||
  field 12 (BitVec.ofNat 3 s.attempts)

/-- `F_FLAGS` (rule R77); bits 15:5 are zero. -/
def fFlags (s : State) : Word :=
  flag 0 (lbaSupported s.identW) |||
  flag 1 (dmaSupported s.identW) |||
  flag 2 (lba48Supported s.identW) |||
  flag 3 (removable s.params s.identW) |||
  flag 4 (fixedMedia s.params s.identW)

/-- Byte `i` of an extracted string, in bits 7:0 of its window register (rule R78). -/
def stringReg (out : List Byte) (i : Nat) : Word := zext16 (out.getD i 0#8)

/-- The registers behind the gate `s.ident_valid`: the field registers (rule R77), the string windows (rule R78) and the
IDENT_WORD window (rule R74). -/
def identReg (a : Nat) (s : State) : Option Word :=
  if a = 0x004 then some (genconf s.identW)
  else if a = 0x005 then some (cylinders s.identW)
  else if a = 0x006 then some (heads s.identW)
  else if a = 0x007 then some (sectors s.identW)
  else if a = 0x008 then some (caps s.identW)
  else if a = 0x009 then some ((lba28Total s.identW).extractLsb' 0 16)
  else if a = 0x00A then some ((lba28Total s.identW).extractLsb' 16 16)
  else if a = 0x00B then some (cmdset83 s.identW)
  else if a = 0x00C then some (fFlags s)
  else if 0x020 ≤ a ∧ a ≤ 0x034 then some (stringReg (serial s.identW) (a - 0x020))
  else if 0x038 ≤ a ∧ a ≤ 0x040 then some (stringReg (firmware s.identW) (a - 0x038))
  else if 0x048 ≤ a ∧ a ≤ 0x070 then some (stringReg (model s.identW) (a - 0x048))
  else if 0x100 ≤ a ∧ a ≤ 0x1FF then some (wordAt s.identW (a - 0x100))
  else none

/-- The value a host read of address `a` returns; `none` for CMD, which is write-only, and for an unmapped address
(rule R74). -/
def hostReg (a : Nat) (s : State) : Option Word :=
  if a = 0x001 then some (csr s)
  else if a = 0x002 then some (gate s.classValid (zext16 s.rawStatus))
  else if a = 0x003 then some (gate s.errValid (zext16 s.errFlags))
  else (identReg a s).map (gate s.identValid)

end Sys2Proof.Machine
end

