-- ==== Sys2Proof/Machine/Ops.lean ====
section
/-! DEFINITION. The shared operations: the primitives of rule R10, the start of the two shared sequences (rules R103,
R121), the end of an operation, the refusal (rule R211), the acceptance check (rule R230) and the reset input (rule R240).
The block has no exceptions, no exception entry and no return from one (rule R210): the refusal is its only fault-like
outcome. -/

namespace Sys2Proof.Machine

/-- One step's answer. -/
abbrev Result := Host.Outcome State Fault Refusal

/-- The device agent receives a write (rules R59, R150). -/
def DeviceRegs.write (d : DeviceRegs) (r : DevReg) (v : Word) : DeviceRegs :=
  match r with
  | .data => { d with data := v }
  | .errorFeatures => { d with features := lo8 v }
  | .sectorCount => { d with sectorCount := lo8 v }
  | .sectorNumber => { d with sectorNumber := lo8 v }
  | .cylLow => { d with cylLow := lo8 v }
  | .cylHigh => { d with cylHigh := lo8 v }
  | .driveHead => { d with driveHead := lo8 v }
  | .statusCommand => { d with command := lo8 v }

/-- What the device drives on the bus for the next read, of register `r`: the next listed answer, and a free value where
none is listed (rules R10, R219; log entry 3). -/
def answer (r : DevReg) (s : State) : Word :=
  match s.draws with
  | v :: _ => v
  | [] => Config.deviceAnswer s.trace r

/-- The byte the next read of an 8-bit register returns (rule R52). -/
def readByte (r : DevReg) (s : State) : Byte := lo8 (answer r s)

/-- The value the next `MemRead(r, n)` returns, at the register's width (rules R10, R52, R55). -/
def readValue (r : DevReg) (s : State) : Word :=
  if r.bytes = 1 then zext16 (readByte r s) else answer r s

/-- `MemRead(r, n)`: one indivisible device read, recorded in the trace (rules R10, R57, R58). Its value is
`readValue r s`. -/
def portRead (r : DevReg) (s : State) : State :=
  { s with draws := s.draws.tail, trace := .memRead r r.bytes (readValue r s) :: s.trace }

/-- `MemWrite(r, n, v)`: one device write, recorded in the trace (rules R10, R58). -/
def portWrite (r : DevReg) (v : Word) (s : State) : State :=
  { s with device := s.device.write r v, trace := .memWrite r r.bytes v :: s.trace }

/-- `Settle()`: a wait of at least `T_SETTLE` (rules R10, R215). -/
def settle (s : State) : State :=
  { s with trace := .settle s.params.tSettleNs :: s.trace }

/-- How long the delay request made now goes on: the next listed duration, and a free value where none is listed (rule
R214; log entry 4). -/
def delayAnswer (s : State) : Option Nat :=
  match s.delays with
  | k :: _ => k
  | [] => Config.delayTurns s.trace

/-- `Delay(sec, usec)`: one request to the delay collaborator (rules R10, R214). -/
def requestDelay (sec usec : Nat) (s : State) : State :=
  { s with delays := s.delays.tail, delayLeft := delayAnswer s, trace := .delayRequest sec usec :: s.trace }

/-- The delay collaborator reports completion (rule R214). -/
def delayCompletes (s : State) : State :=
  { s with delayLeft := none, trace := .delayDone :: s.trace }

/-- `Emit(e)`: the diagnostic sink accepts an event at once (rules R10, R217). -/
def emit (d : Diagnostic) (s : State) : State := { s with trace := .emit d :: s.trace }

/-- `goto S` (rule R10). -/
def goto (f : Fsm) (s : State) : State := { s with fsm := f }

/-- `refuse(reason)`: the sticky mark and the event, no other effect (rule R211). -/
def refuse (reason : RefuseReason) (s : State) : State :=
  { s with refused := true, trace := .refused reason :: s.trace }

/-- The start of a PollStatus sequence (rule R103). -/
def startPoll (ctx : PsCtx) (s : State) : State := { s with psCtx := ctx, psCount := 0, fsm := .psRead }

/-- The start of an ErrorReport sequence (rule R121). -/
def startErrorReport (ctx : ErCtx) (s : State) : State := { s with erCtx := ctx, fsm := .erRead }

/-- The start of the identify transfer (rules R173, R174). -/
def startTransfer (s : State) : State := { s with xferK := 0, fsm := .idXfer }

/-- The end of an operation: `s.op <- NONE; goto IDLE` (rules R104, R121, R148, R176). -/
def finish (s : State) : State := { s with op := .none, fsm := .idle }

/-- A command is accepted only in `IDLE`; while `ACTIVE = 1` it is refused and not queued (rules R212, R221, R230). -/
def accept (start : State → State) (s : State) : State :=
  if s.active then refuse .commandWhileActive s else start s

/-- The next outside action has been taken. -/
def popHost (s : State) : State := { s with host := s.host.tail }

/-- The reset input is asserted: the block takes the values of rule R39. `s.refused` stays (rule R241), and so do the
parameters, the device (rule R242), the trace and the other agents. A delay request in flight is forgotten (rule R240).
-/
def assertReset (s : State) : State :=
  { State.reset with
    refused := s.refused, params := s.params, trace := s.trace, device := s.device, draws := s.draws,
    delays := s.delays, host := s.host, hostLog := s.hostLog }

end Sys2Proof.Machine
end

