-- ==== Sys2Proof/Machine/DriveSelector.lean ====
section
/-! DEFINITION. The Drive Selector's states and DETECT_DRIVE (spec/42_drive_selector.md). -/

namespace Sys2Proof.Machine

/-- DETECT_DRIVE, accepted in `IDLE` (rules R140, R149). -/
def execDetectDrive (driveIndex : Byte) (s : State) : Result :=
  .next (accept
    (fun s =>
      { s with
        op := .detectDrive
        selDrive := driveOf driveIndex
        budget := budgetOf (driveOf driveIndex)
        attempts := 0
        detectOk := false
        detected := false
        identValid := false
        fsm := .ddSelect }) s)

/-- `DD_SELECT`: one select write on every attempt, then PollStatus (rules R142, R143). -/
def stepDdSelect (s : State) : State :=
  startPoll .detect
    { portWrite .driveHead (zext16 (selByte s.selDrive)) s with attempts := s.attempts + 1 }

/-- The detection fails: `s.detect_ok <- 0; goto DD_DONE` (rules R144, R145, R147). -/
def detectFails (s : State) : State := goto .ddDone { s with detectOk := false }

/-- `DD_EVAL`: the dispatch on the classification (rule R144). -/
def stepDdEval (s : State) : State :=
  match s.lastClass with
  | .notReady => goto .ddBackoff s
  | .ready => goto .ddRbW1 s
  | .notPresent => detectFails s
  | .busy => detectFails s
  | .error => detectFails s
  | .fault => detectFails s

/-- `DD_BACKOFF` (rule R145). -/
def stepDdBackoff (s : State) : State :=
  goto .ddWait (requestDelay backoffSeconds backoffMicroseconds s)

/-- `DD_WAIT` once the delay collaborator has reported completion (rules R145, R146). -/
def afterDelay (s : State) : State :=
  if s.attempts < s.budget then goto .ddSelect (delayCompletes s) else detectFails (delayCompletes s)

/-- `DD_WAIT`: no step of the block until the delay collaborator reports completion (rules R145, R214). -/
def stepDdWait (s : State) : State :=
  match s.delayLeft with
  | some 0 => afterDelay s
  | some (k + 1) => { s with delayLeft := some k }
  | none => s

/-- `DD_RB_W1` (rule R147). -/
def stepDdRbW1 (s : State) : State := goto .ddRbR1 (portWrite .cylLow (zext16 rbValue1) s)

/-- `DD_RB_R1`: the first mismatch ends the test (rule R147). -/
def stepDdRbR1 (s : State) : State :=
  if readByte .cylLow s = rbValue1 then goto .ddRbW2 (portRead .cylLow s) else detectFails (portRead .cylLow s)

/-- `DD_RB_W2` (rule R147). -/
def stepDdRbW2 (s : State) : State := goto .ddRbR2 (portWrite .cylLow (zext16 rbValue2) s)

/-- `DD_RB_R2` (rule R147). -/
def stepDdRbR2 (s : State) : State :=
  goto .ddDone { portRead .cylLow s with detectOk := decide (readByte .cylLow s = rbValue2) }

/-- `DD_DONE` (rule R148). -/
def stepDdDone (s : State) : State := finish { s with detected := s.detectOk }

end Sys2Proof.Machine
end

