-- ==== Sys2Proof/Machine/ErrorDecoder.lean ====
section
/-! DEFINITION. The Error Decoder's states and REPORT_ERROR (spec/41_error_decoder.md). -/

namespace Sys2Proof.Machine

/-- REPORT_ERROR, accepted in `IDLE` after an Error classification and refused otherwise (rule R125). -/
def execReportError (s : State) : Result :=
  .next (accept
    (fun s =>
      if s.classValid = true ∧ s.lastClass = .error then startErrorReport .host { s with op := .reportError }
      else refuse .reportErrorWithoutError s) s)

/-- `ER_READ`: the one error register read (rule R121). -/
def stepErRead (s : State) : State :=
  goto .erEmit
    { portRead .errorFeatures s with errFlags := readByte .errorFeatures s, errValid := true, erI := 0 }

/-- `ER_EMIT` for set bit `j`: its event, and the cursor past it (rule R122). -/
def emitFlag (j : Fin 8) (s : State) : State :=
  goto (if nextErrorBit s.errFlags (j.val + 1) = none then .erDone else .erEmit)
    { emit (.errorFlag (flagOf j)) s with erI := j.val + 1 }

/-- `ER_EMIT`: exactly one event (rules R122, R123). -/
def stepErEmit (s : State) : Result :=
  if s.errFlags = 0#8 then .next (goto .erDone (emit .errorNoFlags s))
  else
    match nextErrorBit s.errFlags s.erI with
    | some j => .next (emitFlag j s)
    | none => .fault .noErrorBitLeft

/-- `ER_DONE`: the dispatch on `s.er_ctx` (rules R121, R174). -/
def stepErDone (s : State) : State :=
  match s.erCtx with
  | .host => finish s
  | .ident => startTransfer s

end Sys2Proof.Machine
end

