-- ==== Sys2Proof/Machine/Identify.lean ====
section
/-! DEFINITION. The Identify Parser's states, IDENTIFY_DEVICE, and the device command it issues (spec/43_identify.md). -/

namespace Sys2Proof.Machine

/-- IDENTIFY_DEVICE, accepted in `IDLE` after a successful DETECT_DRIVE and refused otherwise (rules R170, R190). -/
def execIdentifyDevice (s : State) : Result :=
  .next (accept
    (fun s =>
      if s.detected then
        startPoll .idPre
          { s with op := .identifyDevice, identValid := false, errValid := false, xferK := 0 }
      else refuse .identifyWithoutDetect s) s)

/-- ATA_IDENTIFY_DEVICE: the block writes 0xEC to the device's command register and polls (rule R172). The block gives it
in state `ID_CMD`. -/
def execAtaIdentifyDevice (s : State) : Result :=
  .next (startPoll .idPost (portWrite .statusCommand (zext16 cmdIdentify) s))

/-- `ID_PRE_LOG` (rule R171). -/
def stepIdPreLog (s : State) : State := startPoll .idPre (emit .busyIteration s)

/-- `ID_POST_LOG` (rule R173). -/
def stepIdPostLog (s : State) : State := startPoll .idPost (emit .busyIteration s)

/-- The transfer's last word has been read (rule R175). -/
def transferDone (s : State) : State :=
  goto (if s.lastClass = .error then .idDump else .idFields) { s with identValid := true }

/-- `ID_XFER`: one data register read into `s.ident_w[s.xfer_k]` (rule R175). -/
def storeWord (s : State) : State :=
  { portRead .data s with
    identW := s.identW.setIfInBounds s.xferK (readValue .data s)
    xferK := s.xferK + 1 }

/-- `ID_XFER` (rule R175). There is no word 256 to store to (rule R33). -/
def stepIdXfer (s : State) : Result :=
  if s.xferK < identWords then
    if s.xferK + 1 < identWords then .next (goto .idXfer (storeWord s)) else .next (transferDone (storeWord s))
  else .fault .identIndexOutOfRange

/-- `ID_FIELDS` (rule R176). -/
def stepIdFields (s : State) : State :=
  goto .idDump (emit (.fieldsReport (fieldsOf s.params s.identW)) s)

/-- `ID_DUMP` (rule R176). -/
def stepIdDump (s : State) : State := goto .idDone (emit (.dumpRequest (byteView s.identW)) s)

/-- `ID_DONE` (rule R176). -/
def stepIdDone (s : State) : State := finish s

end Sys2Proof.Machine
end

