-- ==== Sys2Proof/Machine/PollStatus.lean ====
section
/-! DEFINITION. The Status Classifier's states and POLL_STATUS (spec/40_status_classifier.md). -/

namespace Sys2Proof.Machine

/-- POLL_STATUS, accepted in `IDLE` (rule R106). -/
def execPollStatus (s : State) : Result :=
  .next (accept (fun s => startPoll .host { s with op := .pollStatus }) s)

/-- `PS_READ`: one discard read; its value is not kept (rule R103). -/
def stepPsRead (s : State) : State :=
  goto .psSettle { portRead .statusCommand s with psCount := s.psCount + 1 }

/-- `PS_SETTLE` (rule R103). -/
def stepPsSettle (s : State) : State :=
  goto (if s.psCount < s.params.nDiscard then .psRead else .psAuth) (settle s)

/-- `PS_AUTH`: the authoritative read and its classification (rule R103). -/
def stepPsAuth (s : State) : State :=
  goto .psDone
    { portRead .statusCommand s with
      rawStatus := readByte .statusCommand s
      lastClass := classify (readByte .statusCommand s)
      classValid := true }

/-- `PS_DONE` with `s.ps_ctx = ID_PRE` (rule R171). -/
def afterPrePoll (s : State) : State :=
  if s.lastClass = .busy then goto .idPreLog s else goto .idCmd s

/-- `PS_DONE` with `s.ps_ctx = ID_POST` (rule R173). -/
def afterPostPoll (s : State) : State :=
  if s.lastClass = .busy then
    if s.params.logPostBusy then goto .idPostLog s else startPoll .idPost s
  else if s.lastClass = .error then startErrorReport .ident s
  else startTransfer s

/-- `PS_DONE`: the dispatch on `s.ps_ctx` (rule R104). -/
def stepPsDone (s : State) : State :=
  match s.psCtx with
  | .host => finish s
  | .detect => goto .ddEval s
  | .idPre => afterPrePoll s
  | .idPost => afterPostPoll s

end Sys2Proof.Machine
end

