-- ==== Sys2Proof/Machine/Dispatch.lean ====
section
/-! DEFINITION. One arm per instruction. -/

namespace Sys2Proof.Machine

def exec (i : Instr) (s : State) : Host.Outcome State Fault Refusal :=
  match i with
  | .pollStatus => Sys2Proof.Machine.execPollStatus s
  | .reportError => Sys2Proof.Machine.execReportError s
  | .detectDrive driveIndex => Sys2Proof.Machine.execDetectDrive driveIndex s
  | .identifyDevice => Sys2Proof.Machine.execIdentifyDevice s
  | .ataIdentifyDevice => Sys2Proof.Machine.execAtaIdentifyDevice s

end Sys2Proof.Machine
end

