-- ==== Sys2Proof/Machine/Block.lean ====
section
/-! DEFINITION. One step of the block on its own, by `s.fsm` (rule R22). -/

namespace Sys2Proof.Machine

/-- What the block does in its turn (rules R11, R22). In `IDLE` it waits for a host command (rule R243). In `ID_CMD` it
gives the device the one ATA command (rule R172). -/
def blockStep (s : State) : Result :=
  match s.fsm with
  | .idle => .next s
  | .psRead => .next (stepPsRead s)
  | .psSettle => .next (stepPsSettle s)
  | .psAuth => .next (stepPsAuth s)
  | .psDone => .next (stepPsDone s)
  | .erRead => .next (stepErRead s)
  | .erEmit => stepErEmit s
  | .erDone => .next (stepErDone s)
  | .ddSelect => .next (stepDdSelect s)
  | .ddEval => .next (stepDdEval s)
  | .ddBackoff => .next (stepDdBackoff s)
  | .ddWait => .next (stepDdWait s)
  | .ddRbW1 => .next (stepDdRbW1 s)
  | .ddRbR1 => .next (stepDdRbR1 s)
  | .ddRbW2 => .next (stepDdRbW2 s)
  | .ddRbR2 => .next (stepDdRbR2 s)
  | .ddDone => .next (stepDdDone s)
  | .idPreLog => .next (stepIdPreLog s)
  | .idCmd => exec .ataIdentifyDevice s
  | .idPostLog => .next (stepIdPostLog s)
  | .idXfer => stepIdXfer s
  | .idFields => .next (stepIdFields s)
  | .idDump => .next (stepIdDump s)
  | .idDone => .next (stepIdDone s)

end Sys2Proof.Machine
end

