-- ==== Sys2Proof/Machine/HostPort.lean ====
section
/-! DEFINITION. The host port (rules R66, R212, R230), the turns of the agents (rules R220, R221), and how an instruction is
placed where the next step runs it. -/

namespace Sys2Proof.Machine

/-- A host write of `cmd` to CMD (rule R230). The checks are made in the order of rule R212: `CommandWhileActive` comes
before `IllegalCommand`; a legal command makes its own check of `ACTIVE` when it runs. -/
def hostCommand (cmd : Word) (s : State) : Result :=
  match decode (.host cmd) with
  | .ok i => exec i s
  | .error _ => .next (accept (refuse .illegalCommand) s)

/-- A host write of `v` to host address `a`: only CMD takes one (rules R66, R212). -/
def hostWrite (a : Nat) (v : Word) (s : State) : Result :=
  if a = 0x000 then hostCommand v s else .next (refuse .hostWriteNotCmd s)

/-- A host read of host address `a`: it changes nothing of the block (rule R66) and the host gets the value (log entry 11).
A read of CMD or of an unmapped address is refused (rule R212). -/
def hostRead (a : Nat) (s : State) : State :=
  match hostReg a s with
  | some v => { s with hostLog := (a, v) :: s.hostLog }
  | none => refuse .hostReadUnmapped s

/-- One turn: the next outside action, and a step of the block where the outside leaves it the turn (rule R221; log entry
1). -/
def turn (s : State) : Result :=
  match s.host with
  | [] => blockStep s
  | .write a v :: _ => hostWrite a v (popHost s)
  | .read a :: _ => .next (hostRead a (popHost s))
  | .waitIdle :: _ => if s.active then blockStep s else .next (popHost s)
  | .pass :: _ => blockStep (popHost s)
  | .reset :: _ => .next (assertReset (popHost s))

/-- The encoded instruction placed so that the very next turn runs it (log entry 2): a host command is the host's next
write to CMD; the device command is what the block gives in `ID_CMD` of an IDENTIFY_DEVICE. A device command byte other
than 0xEC is one the block has no step for (rule R83), and nothing is placed. -/
def placeCode (c : Code) (s : State) : State :=
  match c with
  | .host cmd => { s with host := .write 0x000 cmd :: s.host }
  | .device code =>
    if code = cmdIdentify then { s with op := .identifyDevice, fsm := .idCmd, host := .pass :: s.host } else s

end Sys2Proof.Machine
end

