-- ==== Sys2Proof/Safety.lean ====
section
/-! DEFINITION. What claims are stated in: runs of several steps, the invariant of the block, the good end of a run (rule
R234), the conditions of the refusals (rule R212), and what a host can see of a state (rule R74). -/

namespace Sys2Proof.Machine

/-- `k` steps, stopping at the first fault or refusal. -/
def steps : Nat → State → Result
  | 0, s => .next s
  | k + 1, s =>
    match step s with
    | .next t => steps k t
    | .fault r => .fault r
    | .refused r => .refused r

/-- The operation a sequencing state belongs to (rules R22 to R24, R26). -/
def opOf (f : Fsm) (p : PsCtx) (e : ErCtx) : Op :=
  match f with
  | .idle => .none
  | .psRead | .psSettle | .psAuth | .psDone =>
    match p with
    | .host => .pollStatus
    | .detect => .detectDrive
    | .idPre | .idPost => .identifyDevice
  | .erRead | .erEmit | .erDone =>
    match e with
    | .host => .reportError
    | .ident => .identifyDevice
  | .ddSelect | .ddEval | .ddBackoff | .ddWait | .ddRbW1 | .ddRbR1 | .ddRbW2 | .ddRbR2 | .ddDone => .detectDrive
  | .idPreLog | .idCmd | .idPostLog | .idXfer | .idFields | .idDump | .idDone => .identifyDevice

/-- The states between the start of an ErrorReport and its end (rule R121). -/
def Fsm.inErrorReport (f : Fsm) : Bool := decide (f = .erRead ∨ f = .erEmit ∨ f = .erDone)

/-- The states after the last word of a transfer (rule R176). -/
def Fsm.afterTransfer (f : Fsm) : Bool := decide (f = .idFields ∨ f = .idDump ∨ f = .idDone)

/-- The invariant: what holds of every state the block gets into, whatever the device, the host and the delay collaborator
do. -/
structure State.Inv (s : State) : Prop where
  /-- The open parameters are in their ranges (rule R7). -/
  params_wf : s.params.wf = true
  /-- `s.op` is the operation `s.fsm` and its context belong to; `NONE` in `IDLE` only (rule R23). -/
  op_eq : s.op = opOf s.fsm s.psCtx s.erCtx
  /-- The discard counter's range (rule R25). -/
  psCount_le : s.psCount ≤ s.params.nDiscard
  psCount_read : s.fsm = .psRead → s.psCount < s.params.nDiscard
  psCount_auth : s.fsm = .psAuth → s.psCount = s.params.nDiscard
  /-- The error cursor's range, and the bit `ER_EMIT` reports next (rules R26, R122). -/
  erI_le : s.erI ≤ 8
  erEmit_bit : s.fsm = .erEmit → s.errFlags = 0#8 ∨ nextErrorBit s.errFlags s.erI ≠ none
  /-- An error report runs only after an Error classification (rule R126). -/
  error_class : s.fsm.inErrorReport = true → s.classValid = true ∧ s.lastClass = .error
  /-- A PollStatus that is done has left a valid classification (rule R28). -/
  done_valid : s.fsm = .psDone → s.classValid = true
  /-- The budget is that of the selected drive (rules R31, R141). -/
  budget_eq : s.budget = budgetOf s.selDrive
  /-- The attempts made (rule R31). -/
  attempts_le : s.attempts ≤ 5
  attempts_budget : s.op = .detectDrive → s.attempts ≤ s.budget
  attempts_select : s.fsm = .ddSelect → s.attempts < s.budget
  attempts_pos : s.op = .detectDrive → s.fsm ≠ .ddSelect → 1 ≤ s.attempts
  /-- During DETECT_DRIVE nothing is detected and no identify buffer is valid (rule R140). -/
  detect_clears : s.op = .detectDrive → s.detected = false ∧ s.identValid = false
  /-- Otherwise `s.detected` is the last result (rule R32). -/
  detected_eq : s.op ≠ .detectDrive → s.detected = s.detectOk
  /-- IDENTIFY_DEVICE runs only on a detected drive (rule R170). -/
  identify_detected : s.op = .identifyDevice → s.detected = true
  /-- During IDENTIFY_DEVICE the buffer is valid from the last word of the transfer on (rules R170, R175). -/
  identify_valid : s.op = .identifyDevice → s.identValid = s.fsm.afterTransfer
  /-- The transfer counter (rule R34). -/
  xferK_le : s.xferK ≤ 256
  xferK_lt : s.fsm = .idXfer → s.xferK < 256
  xferK_done : s.fsm.afterTransfer = true → s.xferK = 256
  /-- The fields are reported only off the error branch (rule R176). -/
  fields_class : s.fsm = .idFields → s.lastClass ≠ .error

/-- The host action that writes a command; reads, waits and the reset input are none (rules R70, R87). -/
def HostAction.isCommand : HostAction → Bool
  | .write a _ => decide (a = 0x000)
  | _ => false

/-- A run is at a good end: the block waits, nothing was refused, and the host has no further command to write; it may
still have reads and waits to do (rule R234). -/
def State.GoodEnd (s : State) : Prop := s.fsm = .idle ∧ s.refused = false ∧ s.host.any HostAction.isCommand = false

/-- When the next turn is refused for each reason (rule R212), the checks in the order the rule gives. -/
def refusalCondition (r : RefuseReason) (s : State) : Prop :=
  match r with
  | .commandWhileActive => ∃ w rest, s.host = .write 0x000 w :: rest ∧ s.fsm ≠ .idle
  | .illegalCommand => ∃ w rest, s.host = .write 0x000 w :: rest ∧ s.fsm = .idle ∧ illegal w = true
  | .reportErrorWithoutError =>
    ∃ rest, s.host = .write 0x000 0x0002#16 :: rest ∧ s.fsm = .idle ∧ ¬(s.classValid = true ∧ s.lastClass = .error)
  | .identifyWithoutDetect =>
    ∃ rest, s.host = .write 0x000 0x0004#16 :: rest ∧ s.fsm = .idle ∧ s.detected = false
  | .hostWriteNotCmd => ∃ a v rest, s.host = .write a v :: rest ∧ a ≠ 0x000
  | .hostReadUnmapped => ∃ a rest, s.host = .read a :: rest ∧ hostReg a s = none

/-- `t` is `s` but for state elements that their valid bits hide from the host (rules R39, R74, R75). -/
def hiddenDiffer (s t : State) : Prop :=
  t = { s with
    rawStatus := if s.classValid then s.rawStatus else t.rawStatus
    lastClass := if s.classValid then s.lastClass else t.lastClass
    errFlags := if s.errValid then s.errFlags else t.errFlags
    selDrive := if s.detected then s.selDrive else t.selDrive
    identW := if s.identValid then s.identW else t.identW
    budget := t.budget
    psCtx := t.psCtx
    erCtx := t.erCtx }

/-- The trace of one PollStatus on top of an older trace (rule R103): for each discard read of `vs` the read and a settle,
then the authoritative read of `b`. Newest first. -/
def pollTrace (settleNs : Nat) (vs : List Byte) (b : Byte) (old : List Event) : List Event :=
  .memRead .statusCommand 1 (zext16 b) ::
    vs.foldl (fun acc v => .settle settleNs :: .memRead .statusCommand 1 (zext16 v) :: acc) old

/-- The diagnostics of one ErrorReport on an error byte, oldest first (rules R122, R123). -/
def errorReportEvents (e : Byte) : List Event :=
  if e = 0#8 then [.emit .errorNoFlags] else (decodeError e).map fun f => .emit (.errorFlag f)

/-- How many events of a trace satisfy a test. -/
def countEvents (p : Event → Bool) (trace : List Event) : Nat := (trace.filter p).length

/-- A write of the drive/head register (rule R142). -/
def isSelectWrite : Event → Bool
  | .memWrite .driveHead _ _ => true
  | _ => false

/-- A read of the status register. -/
def isStatusRead : Event → Bool
  | .memRead .statusCommand _ _ => true
  | _ => false

/-- A delay request. -/
def isDelayRequest : Event → Bool
  | .delayRequest _ _ => true
  | _ => false

/-- A BusyIteration event. -/
def isBusyIteration : Event → Bool
  | .emit .busyIteration => true
  | _ => false

/-- The block's accesses to the device registers, by the state that makes them: register, width in bytes, and the value
where it is a write (rule R52; the values from rules R79, R147, R172). -/
def accessAllowed (f : Fsm) : Event → Bool
  | .memRead r n _ =>
    decide ((r = .data ∧ n = 2 ∧ f = .idXfer) ∨ (r = .errorFeatures ∧ n = 1 ∧ f = .erRead) ∨
      (r = .cylLow ∧ n = 1 ∧ (f = .ddRbR1 ∨ f = .ddRbR2)) ∨ (r = .statusCommand ∧ n = 1 ∧ (f = .psRead ∨ f = .psAuth)))
  | .memWrite r n v =>
    decide ((r = .cylLow ∧ n = 1 ∧ ((f = .ddRbW1 ∧ v = 0x12#16) ∨ (f = .ddRbW2 ∧ v = 0x34#16))) ∨
      (r = .driveHead ∧ n = 1 ∧ f = .ddSelect ∧ (v = 0xA0#16 ∨ v = 0xB0#16)) ∨
      (r = .statusCommand ∧ n = 1 ∧ f = .idCmd ∧ v = 0xEC#16))
  | _ => true

end Sys2Proof.Machine
end

