-- ==== Sys2Proof/Certificates/Slice0/Obligations.lean ====
section
/-! DEFINITION. The statements for the provers. A statement about a state of `s.fsm` speaks of `blockStep`, the block's own
step; `TurnsOfTheAgents` says when a step is one. -/

open Sys2Proof Sys2Proof.Machine

/-! ### Encoding (spec/30_encoding.md) -/

/-- Decoding an encoded instruction gives it back, and a code that decodes is its instruction's encoding: no bit of a
code is dropped. -/
def Obligations.DecodeAndEncodeAgree : Prop :=
  (∀ i : Instr, i.wf = true → decode (encode i) = .ok i) ∧
  (∀ (c : Code) (i : Instr), decode c = .ok i → encode i = c)

/-- Rule R73: the illegal words, by arithmetic on the word; the decoder refuses exactly those; and writing one to CMD in
`IDLE` starts nothing and changes no state but `s.refused`. -/
def Obligations.IllegalWordsAreRefused : Prop :=
  (∀ w : Word, illegal w = true ↔
    (w.toNat % 16 = 0 ∨ 5 ≤ w.toNat % 16 ∨ w.toNat / 16 % 16 ≠ 0 ∨
      ((w.toNat % 16 = 1 ∨ w.toNat % 16 = 2 ∨ w.toNat % 16 = 4) ∧ w.toNat / 256 ≠ 0))) ∧
  (∀ w : Word, illegal w = true ↔ ∀ i, decode (.host w) ≠ .ok i) ∧
  (∀ (s : State) (w : Word) (rest : List HostAction),
    s.host = .write 0x000 w :: rest → s.fsm = .idle → illegal w = true →
    step s = .next { s with host := rest, refused := true, trace := .refused .illegalCommand :: s.trace })

/-- Words of the opcode table, and of illegal commands, written out from rules R70 to R73 and R83. -/
def Obligations.TableWordsDecode : Prop :=
  decodeTableWord 16 0x0001 = some .pollStatus ∧
  decodeTableWord 16 0x0002 = some .reportError ∧
  decodeTableWord 16 0x0003 = some (.detectDrive 0x00#8) ∧
  decodeTableWord 16 0x0103 = some (.detectDrive 0x01#8) ∧
  decodeTableWord 16 0xFF03 = some (.detectDrive 0xFF#8) ∧
  decodeTableWord 16 0x0004 = some .identifyDevice ∧
  decodeTableWord 8 0xEC = some .ataIdentifyDevice ∧
  decodeTableWord 16 0x0000 = none ∧ decodeTableWord 16 0x0005 = none ∧ decodeTableWord 16 0x0011 = none ∧
  decodeTableWord 16 0x00F3 = none ∧ decodeTableWord 16 0x0101 = none ∧ decodeTableWord 16 0x00EC = none

/-- The drive index used is bit 0 of the operand, `cmd[8]` (rule R72); and the drive-select byte of each drive (rule R79,
which the spec marks as derived from the source's sentences on the drive/head register). -/
def Obligations.DriveIndexAndSelectByte : Prop :=
  (∀ w : Word, (driveOf (cmdArg w)).toNat = w.toNat / 256 % 2) ∧
  (∀ d : BitVec 1, (selByte d).toNat = 0xA0 + 16 * d.toNat) ∧
  selByte 0#1 = 0xA0#8 ∧ selByte 1#1 = 0xB0#8

/-! ### Turns, steps, the host port -/

/-- A step runs the decoded instruction: the instruction of the word the host writes to CMD, and in `ID_CMD` the device
command. What the step adds around `exec` is that the host's action is taken. -/
def Obligations.StepRunsTheDecodedInstruction : Prop :=
  (∀ (s : State) (w : Word) (rest : List HostAction) (i : Instr),
    s.host = .write 0x000 w :: rest → decode (.host w) = .ok i → step s = exec i { s with host := rest }) ∧
  (∀ s : State, s.fsm = .idCmd →
    (s.host = [] → step s = exec .ataIdentifyDevice s) ∧
    (∀ rest, s.host = .pass :: rest → step s = exec .ataIdentifyDevice { s with host := rest }) ∧
    (∀ rest, s.host = .waitIdle :: rest → step s = exec .ataIdentifyDevice s))

/-- Placing an opcode-table word (log entry 2) makes the next step run its instruction. -/
def Obligations.PlacedWordRunsNext : Prop :=
  ∀ (s : State) (nbits w : Nat) (i : Instr), decodeTableWord nbits w = some i →
    step (s.withFetchWord nbits w) =
      exec i (if i = .ataIdentifyDevice then { s with op := .identifyDevice, fsm := .idCmd } else s)

/-- Whose turn a step is (log entry 1). -/
def Obligations.TurnsOfTheAgents : Prop :=
  ∀ s : State,
    (s.host = [] → step s = blockStep s) ∧
    (∀ rest, s.host = .pass :: rest → step s = blockStep { s with host := rest }) ∧
    (∀ rest, s.host = .waitIdle :: rest → s.fsm ≠ .idle → step s = blockStep s) ∧
    (∀ rest, s.host = .waitIdle :: rest → s.fsm = .idle → step s = .next { s with host := rest })

/-- Rule R66: a host read has no side effect on the block and returns the current value (kept in `hostLog`, log entry 11);
a host write elsewhere than CMD is refused. -/
def Obligations.HostReadHasNoEffect : Prop :=
  (∀ (s : State) (a : Nat) (v : Word) (rest : List HostAction),
    s.host = .read a :: rest → hostReg a s = some v →
    step s = .next { s with host := rest, hostLog := (a, v) :: s.hostLog }) ∧
  (∀ (s : State) (a : Nat) (v : Word) (rest : List HostAction),
    s.host = .write a v :: rest → a ≠ 0x000 →
    step s = .next { s with host := rest, refused := true, trace := .refused .hostWriteNotCmd :: s.trace })

/-- Rule R249: a command written while `ACTIVE = 1` is refused, whatever the word; it neither queues nor cancels. -/
def Obligations.CommandWhileActiveIsRefused : Prop :=
  ∀ (s : State) (w : Word) (rest : List HostAction), s.host = .write 0x000 w :: rest → s.fsm ≠ .idle →
    step s = .next { s with host := rest, refused := true, trace := .refused .commandWhileActive :: s.trace }

/-- Rules R211 and R212: a step is refused for a reason exactly when the rule's row for that reason holds, in the order of
its checks, and the refusal has no other effect. -/
def Obligations.RefusalsAreExactlyThoseListed : Prop :=
  ∀ (s : State) (r : RefuseReason),
    refusalCondition r s ↔
      step s = .next { s with host := s.host.tail, refused := true, trace := .refused r :: s.trace }

/-- Rule R35: the refusal mark is set by a refusal, never cleared, not even by reset, and read as CSR bit 1. -/
def Obligations.RefusalMarkIsSticky : Prop :=
  (∀ s t : State, step s = .next t → s.refused = true → t.refused = true) ∧
  (∀ s t : State, step s = .next t → s.refused = false → t.refused = true → ∃ r, refusalCondition r s) ∧
  (∀ s : State, (csr s).getLsbD 1 = s.refused)

/-! ### Acceptance of the four host commands, and the device command -/

/-- POLL_STATUS in `IDLE` (rule R106): the PollStatus sequence starts, and nothing else changes. -/
def Obligations.PollStatusIsAccepted : Prop :=
  ∀ s : State, s.fsm = .idle →
    exec .pollStatus s = .next { s with op := .pollStatus, psCtx := .host, psCount := 0, fsm := .psRead }

/-- REPORT_ERROR in `IDLE` after an Error classification (rule R125): the ErrorReport sequence starts, and nothing else
changes. -/
def Obligations.ReportErrorIsAccepted : Prop :=
  ∀ s : State, s.fsm = .idle → s.classValid = true → s.lastClass = .error →
    exec .reportError s = .next { s with op := .reportError, erCtx := .host, fsm := .erRead }

/-- REPORT_ERROR in `IDLE` without a valid Error classification is refused (rules R125, R212). -/
def Obligations.ReportErrorWithoutErrorIsRefused : Prop :=
  ∀ s : State, s.fsm = .idle → (s.classValid = false ∨ s.lastClass ≠ .error) →
    exec .reportError s = .next { s with refused := true, trace := .refused .reportErrorWithoutError :: s.trace }

/-- Rule R140, for every operand: the drive index is the operand's bit 0. -/
def Obligations.DetectDriveIsAccepted : Prop :=
  ∀ (s : State) (driveIndex : Byte), s.fsm = .idle →
    exec (.detectDrive driveIndex) s = .next { s with
      op := .detectDrive
      selDrive := BitVec.ofBool (driveIndex.getLsbD 0)
      budget := if driveIndex.getLsbD 0 then 1 else 5
      attempts := 0
      detectOk := false
      detected := false
      identValid := false
      fsm := .ddSelect }

/-- Rule R170: IDENTIFY_DEVICE in `IDLE` is refused if no drive is detected; otherwise it clears what it will replace and
starts the pre-command poll. It writes no device register. -/
def Obligations.IdentifyDeviceIsAccepted : Prop :=
  ∀ s : State, s.fsm = .idle →
    (s.detected = false →
      exec .identifyDevice s =
        .next { s with refused := true, trace := .refused .identifyWithoutDetect :: s.trace }) ∧
    (s.detected = true →
      exec .identifyDevice s = .next { s with
        op := .identifyDevice
        identValid := false
        errValid := false
        xferK := 0
        psCtx := .idPre
        psCount := 0
        fsm := .psRead })

/-- Rule R172: in `ID_CMD` the block writes 0xEC to the command register, and no other device register, and starts the
post-command poll. That `exec` of the device command has this effect in every state, not in `ID_CMD` alone, is the
model's choice (log entry 7); the block runs it in `ID_CMD` only. -/
def Obligations.AtaIdentifyDeviceIsIssued : Prop :=
  (∀ s : State, exec .ataIdentifyDevice s = .next { s with
    device := { s.device with command := 0xEC#8 }
    trace := .memWrite .statusCommand 1 0x00EC#16 :: s.trace
    psCtx := .idPost
    psCount := 0
    fsm := .psRead }) ∧
  (∀ s : State, s.fsm = .idCmd → blockStep s = exec .ataIdentifyDevice s)

/-! ### Status Classifier (spec/40_status_classifier.md) -/

/-- Rule R100: the priority of the six cases, on the bits of the byte as a number. -/
def Obligations.ClassifyFollowsThePriority : Prop :=
  ∀ b : Byte,
    (b.toNat / 128 % 2 = 0 ∧ b.toNat / 64 % 2 = 0 → classify b = .notReady) ∧
    (b.toNat / 128 % 2 = 1 ∧ b.toNat / 64 % 2 = 1 → classify b = .notPresent) ∧
    (b.toNat / 128 % 2 = 1 ∧ b.toNat / 64 % 2 = 0 → classify b = .busy) ∧
    (b.toNat / 128 % 2 = 0 ∧ b.toNat / 64 % 2 = 1 →
      (b.toNat % 2 = 1 → classify b = .error) ∧
      (b.toNat % 2 = 0 ∧ b.toNat / 32 % 2 = 1 → classify b = .fault) ∧
      (b.toNat % 2 = 0 ∧ b.toNat / 32 % 2 = 0 → classify b = .ready))

/-- Rule R101: bits 1 to 4 never change the result; DRQ is not a ready condition. -/
def Obligations.ClassifyIgnoresTheOtherBits : Prop :=
  (∀ b c : Byte, b &&& 0xE1#8 = c &&& 0xE1#8 → classify b = classify c) ∧
  classify 0x58#8 = .ready ∧ classify 0x08#8 = .notReady

/-- The counts over the 256 status bytes, which rule R102 marks as the spec's derivation. -/
def Obligations.ClassifyCounts : Prop :=
  ∀ c : DeviceStatus,
    ((List.range 256).filter fun n => decide (classify (BitVec.ofNat 8 n) = c)).length =
      match c with
      | .notReady => 64
      | .notPresent => 64
      | .busy => 64
      | .error => 32
      | .fault => 16
      | .ready => 16

/-- Rule R103, for every `N_DISCARD >= 1` and every device: from the start of a PollStatus sequence the block makes
`N_DISCARD` discard reads, each followed by a settle, then the authoritative read, whose value alone it keeps and
classifies; nothing else changes. That the values read are the device's listed answers where it lists any is the
model's choice (log entry 3). -/
def Obligations.PollStatusSequence : Prop :=
  ∀ s : State, s.fsm = .psRead → s.psCount = 0 → s.host = [] → 1 ≤ s.params.nDiscard →
    ∃ (vs : List Byte) (b : Byte),
      vs.length = s.params.nDiscard ∧
      (∀ (k : Nat) (v : Word), k ≤ s.params.nDiscard → s.draws[k]? = some v → (vs ++ [b])[k]? = some (lo8 v)) ∧
      steps (2 * s.params.nDiscard + 1) s = .next { s with
        psCount := s.params.nDiscard
        rawStatus := b
        lastClass := classify b
        classValid := true
        draws := s.draws.drop (s.params.nDiscard + 1)
        trace := pollTrace s.params.tSettleNs vs b s.trace
        fsm := .psDone }

/-- Rule R104: the dispatch of `PS_DONE`; the two loops of IDENTIFY_DEVICE are in `PreCommandLoop` and
`PostCommandLoop`. -/
def Obligations.PollDoneDispatches : Prop :=
  ∀ s : State, s.fsm = .psDone →
    (s.psCtx = .host → blockStep s = .next { s with op := .none, fsm := .idle }) ∧
    (s.psCtx = .detect → blockStep s = .next { s with fsm := .ddEval })

/-- POLL_STATUS from the host's write to its end (rule R106; rule R107, the spec's own derivation): in `2 * N_DISCARD
+ 3` steps the block is in `IDLE` again with the classification of the authoritative read, which the host reads in CSR
and RAW_STATUS. -/
def Obligations.PollStatusRunsToItsEnd : Prop :=
  ∀ s : State, s.fsm = .idle → s.host = [.write 0x000 0x0001#16] → 1 ≤ s.params.nDiscard →
    ∃ (vs : List Byte) (b : Byte) (t : State),
      vs.length = s.params.nDiscard ∧
      steps (2 * s.params.nDiscard + 3) s = .next t ∧
      t = { s with
        host := []
        psCtx := .host
        psCount := s.params.nDiscard
        rawStatus := b
        lastClass := classify b
        classValid := true
        draws := s.draws.drop (s.params.nDiscard + 1)
        trace := pollTrace s.params.tSettleNs vs b s.trace
        op := .none } ∧
      hostReg 0x002 t = some (zext16 b) ∧
      (csr t).extractLsb' 3 3 = (
        match classify b with
        | .ready => 0#3
        | .notPresent => 1#3
        | .busy => 2#3
        | .error => 3#3
        | .fault => 4#3
        | .notReady => 5#3) ∧
      (csr t).getLsbD 0 = false ∧ (csr t).getLsbD 2 = true

/-! ### Error Decoder (spec/41_error_decoder.md) -/

/-- Rule R120: the flags reported are those whose bits are set, each once, and none for 0. -/
def Obligations.DecodeErrorIsTheSetBits : Prop :=
  (∀ (e : Byte) (i : Fin 8), flagOf i ∈ decodeError e ↔ e.toNat / 2 ^ i.val % 2 = 1) ∧
  (∀ e : Byte, (decodeError e).Nodup) ∧
  decodeError 0#8 = [] ∧
  decodeError 0xFF#8 =
    [.noAddressMark, .track0NotFound, .aborted, .mediaChangeRequest, .idMarkNotFound, .mediaChanged,
      .uncorrectableData, .badBlock]

/-- Rule R122, from the read of rule R121: an ErrorReport reads the error register once, latches it, and emits one
event a step, one for each set bit in ascending order, or ErrorNoFlags for an error byte of 0 (rule R123); then it is
at `ER_DONE`, the cursor just past the highest set bit. That the read takes the next of the device's listed answers is
the model's choice (log entry 3). -/
def Obligations.ErrorReportEmitsEachSetBit : Prop :=
  ∀ s : State, s.fsm = .erRead → s.host = [] →
    steps (1 + (errorReportEvents (readByte .errorFeatures s)).length) s = .next { s with
      errFlags := readByte .errorFeatures s
      errValid := true
      erI := if readByte .errorFeatures s = 0#8 then 0 else (readByte .errorFeatures s).toNat.log2 + 1
      draws := s.draws.tail
      trace := (errorReportEvents (readByte .errorFeatures s)).reverse ++
        .memRead .errorFeatures 1 (zext16 (readByte .errorFeatures s)) :: s.trace
      fsm := .erDone }

/-- Rules R121 and R174: `ER_DONE` ends REPORT_ERROR, or goes on to the transfer of IDENTIFY_DEVICE. -/
def Obligations.ErrorReportDoneDispatches : Prop :=
  ∀ s : State, s.fsm = .erDone →
    (s.erCtx = .host → blockStep s = .next { s with op := .none, fsm := .idle }) ∧
    (s.erCtx = .ident → blockStep s = .next { s with xferK := 0, fsm := .idXfer })

/-- Rule R124: an ErrorReport writes none of the classification registers, reads no status register and never starts
again. -/
def Obligations.ErrorReportOnlyReports : Prop :=
  ∀ s t : State, s.fsm.inErrorReport = true → blockStep s = .next t →
    t.lastClass = s.lastClass ∧ t.classValid = s.classValid ∧ t.rawStatus = s.rawStatus ∧
    (∀ n v, t.trace ≠ .memRead .statusCommand n v :: s.trace) ∧ t.fsm ≠ .erRead

/-- Rule R126, which the spec marks as its derivation: the error register is read only in `ER_READ`; that state is
reached only from REPORT_ERROR and from the error branch of IDENTIFY_DEVICE; and, in states that meet the invariant,
the classification is then Error. -/
def Obligations.ErrorRegisterReadOnlyAfterError : Prop :=
  (∀ (s t : State) (n : Nat) (v : Word),
    step s = .next t → t.trace = .memRead .errorFeatures n v :: s.trace → s.fsm = .erRead) ∧
  (∀ s t : State, step s = .next t → s.fsm ≠ .erRead → t.fsm = .erRead →
    (s.fsm = .idle ∧ s.classValid = true ∧ s.lastClass = .error ∧ t.op = .reportError) ∨
    (s.fsm = .psDone ∧ s.psCtx = .idPost ∧ s.lastClass = .error)) ∧
  (∀ s : State, s.Inv → s.fsm = .erRead → s.classValid = true ∧ s.lastClass = .error)

/-! ### Drive Selector (spec/42_drive_selector.md) -/

/-- Rules R142 and R143: every attempt writes the drive-select byte, is counted, and starts a PollStatus. -/
def Obligations.EveryAttemptWritesTheSelectByte : Prop :=
  ∀ s : State, s.fsm = .ddSelect →
    blockStep s = .next { s with
      device := { s.device with driveHead := if s.selDrive = 0#1 then 0xA0#8 else 0xB0#8 }
      trace := .memWrite .driveHead 1 (if s.selDrive = 0#1 then 0x00A0#16 else 0x00B0#16) :: s.trace
      attempts := s.attempts + 1
      psCtx := .detect
      psCount := 0
      fsm := .psRead }

/-- Rule R144: the dispatch on the classification; Busy and Error are not retried and start no ErrorReport. -/
def Obligations.DetectDispatchesOnTheClass : Prop :=
  ∀ s : State, s.fsm = .ddEval →
    (s.lastClass = .notReady → blockStep s = .next { s with fsm := .ddBackoff }) ∧
    (s.lastClass = .ready → blockStep s = .next { s with fsm := .ddRbW1 }) ∧
    (s.lastClass ≠ .notReady → s.lastClass ≠ .ready →
      blockStep s = .next { s with detectOk := false, fsm := .ddDone })

/-- Rule R145: the backoff request, the wait, and what follows the completion; `delayLeft = some 0` is the completion's
report (log entry 4). -/
def Obligations.BackoffThenRetryOrGiveUp : Prop :=
  (∀ s : State, s.fsm = .ddBackoff →
    blockStep s = .next { s with
      delays := s.delays.tail
      delayLeft := delayAnswer s
      trace := .delayRequest 1 0 :: s.trace
      fsm := .ddWait }) ∧
  (∀ s : State, s.fsm = .ddWait → s.delayLeft = some 0 → s.attempts < s.budget →
    blockStep s = .next { s with delayLeft := none, trace := .delayDone :: s.trace, fsm := .ddSelect }) ∧
  (∀ s : State, s.fsm = .ddWait → s.delayLeft = some 0 → s.budget ≤ s.attempts →
    blockStep s =
      .next { s with delayLeft := none, trace := .delayDone :: s.trace, detectOk := false, fsm := .ddDone }) ∧
  (∀ (s : State) (n : Nat), s.fsm = .ddWait → s.delayLeft = some (n + 1) →
    blockStep s = .next { s with delayLeft := some n }) ∧
  (∀ s : State, s.fsm = .ddWait → s.delayLeft = none → blockStep s = .next s)

/-- Rule R147: the four states of the read-back test, on the full 8 bits; the first mismatch ends it; and the test
begins only in `DD_EVAL`, on Ready. That a read takes the next of the device's listed answers is the model's choice
(log entry 3). -/
def Obligations.ReadBackTest : Prop :=
  (∀ s : State, s.fsm = .ddRbW1 →
    blockStep s = .next { s with
      device := { s.device with cylLow := 0x12#8 }, trace := .memWrite .cylLow 1 0x0012#16 :: s.trace, fsm := .ddRbR1 }) ∧
  (∀ s : State, s.fsm = .ddRbR1 → readByte .cylLow s = 0x12#8 →
    blockStep s = .next { s with
      draws := s.draws.tail, trace := .memRead .cylLow 1 0x0012#16 :: s.trace, fsm := .ddRbW2 }) ∧
  (∀ s : State, s.fsm = .ddRbR1 → readByte .cylLow s ≠ 0x12#8 →
    blockStep s = .next { s with
      draws := s.draws.tail, trace := .memRead .cylLow 1 (zext16 (readByte .cylLow s)) :: s.trace
      detectOk := false, fsm := .ddDone }) ∧
  (∀ s : State, s.fsm = .ddRbW2 →
    blockStep s = .next { s with
      device := { s.device with cylLow := 0x34#8 }, trace := .memWrite .cylLow 1 0x0034#16 :: s.trace, fsm := .ddRbR2 }) ∧
  (∀ s : State, s.fsm = .ddRbR2 →
    blockStep s = .next { s with
      draws := s.draws.tail, trace := .memRead .cylLow 1 (zext16 (readByte .cylLow s)) :: s.trace
      detectOk := decide (readByte .cylLow s = 0x34#8), fsm := .ddDone }) ∧
  (∀ s t : State, step s = .next t → s.fsm ≠ .ddRbW1 → t.fsm = .ddRbW1 → s.fsm = .ddEval ∧ s.lastClass = .ready)

/-- Rule R148, whose "reached only" the spec marks as its derivation: `DD_DONE` records the result; over all steps,
`s.detect_ok` becomes 1 only in `DD_RB_R2` on reading 0x34, a state reached only through `DD_RB_W2`, and that only on
reading 0x12 in `DD_RB_R1`; every other way to `DD_DONE` leaves `s.detect_ok = 0`. -/
def Obligations.DetectSucceedsOnlyThroughTheReadBack : Prop :=
  (∀ s : State, s.fsm = .ddDone →
    blockStep s = .next { s with detected := s.detectOk, op := .none, fsm := .idle }) ∧
  (∀ s t : State, step s = .next t → s.detectOk = false → t.detectOk = true →
    s.fsm = .ddRbR2 ∧ readByte .cylLow s = 0x34#8) ∧
  (∀ s t : State, step s = .next t → s.fsm ≠ .ddRbR2 → t.fsm = .ddRbR2 → s.fsm = .ddRbW2) ∧
  (∀ s t : State, step s = .next t → s.fsm ≠ .ddRbW2 → t.fsm = .ddRbW2 →
    s.fsm = .ddRbR1 ∧ readByte .cylLow s = 0x12#8) ∧
  (∀ s t : State, step s = .next t → s.fsm ≠ .ddDone → t.fsm = .ddDone → s.fsm ≠ .ddRbR2 → t.detectOk = false)

/-- Rule R146, which the spec marks as its derivation: under a device that answers with NotReady bytes (log entry 3),
and a delay collaborator that completes every request (log entry 4), DETECT_DRIVE of drive `d` makes exactly
`BUDGET(d)` select writes, PollStatus sequences and backoff delays, and ends with `s.attempts = BUDGET(d)` and
`s.detect_ok = 0`. -/
def Obligations.PersistentNotReadyUsesTheBudget : Prop :=
  ∀ s : State, s.fsm = .ddSelect → s.op = .detectDrive → s.host = [] → s.attempts = 0 →
    s.budget = budgetOf s.selDrive → 1 ≤ s.params.nDiscard →
    s.draws.length = s.budget * (s.params.nDiscard + 1) →
    (∀ v ∈ s.draws, classify (lo8 v) = .notReady) →
    s.delays.length = s.budget → (∀ d ∈ s.delays, d ≠ none) →
    ∃ (k : Nat) (t : State) (new : List Event),
      steps k s = .next t ∧ t.fsm = .idle ∧ t.op = .none ∧
      t.attempts = budgetOf s.selDrive ∧ t.detectOk = false ∧ t.detected = false ∧ t.lastClass = .notReady ∧
      t.trace = new ++ s.trace ∧
      countEvents isSelectWrite new = budgetOf s.selDrive ∧
      countEvents isStatusRead new = budgetOf s.selDrive * (s.params.nDiscard + 1) ∧
      countEvents isDelayRequest new = budgetOf s.selDrive

/-- Rule R151, which the spec marks as its derivation: a DETECT_DRIVE always ends, whatever the device answers, if the
delay collaborator completes every request (log entry 4). -/
def Obligations.DetectDriveAlwaysEnds : Prop :=
  ∀ s : State, s.Inv → s.op = .detectDrive → s.host = [] →
    5 ≤ s.delays.length → (∀ d ∈ s.delays, d ≠ none) → (s.fsm = .ddWait → s.delayLeft ≠ none) →
    ∃ (k : Nat) (t : State), steps k s = .next t ∧ t.fsm = .idle ∧ t.op = .none ∧ t.detected = t.detectOk

/-- DETECT_DRIVE on a drive that is Ready at the first attempt (rules R147 to R150; the device's answers by log entry 3):
it succeeds exactly if the two read-backs
are 0x12 and 0x34, and the device keeps the select byte and the last read-back value written. -/
def Obligations.ReadyDriveIsDetectedByReadBack : Prop :=
  ∀ (s : State) (vs : List Word) (b r1 r2 : Word), s.fsm = .ddSelect → s.host = [] → 1 ≤ s.params.nDiscard →
    vs.length = s.params.nDiscard → s.draws = vs ++ [b, r1, r2] → classify (lo8 b) = .ready →
    ∃ (k : Nat) (t : State),
      steps k s = .next t ∧ t.fsm = .idle ∧ t.op = .none ∧
      (t.detectOk = true ↔ lo8 r1 = 0x12#8 ∧ lo8 r2 = 0x34#8) ∧ t.detected = t.detectOk ∧
      t.attempts = s.attempts + 1 ∧ t.rawStatus = lo8 b ∧
      t.device = { s.device with
        driveHead := selByte s.selDrive
        cylLow := if lo8 r1 = 0x12#8 then 0x34#8 else 0x12#8 } ∧
      t.identW = s.identW ∧ t.errFlags = s.errFlags ∧ t.errValid = s.errValid

/-! ### Identify Parser (spec/43_identify.md) -/

/-- Rule R171: the pre-command loop; every class but Busy leads to `ID_CMD`. -/
def Obligations.PreCommandLoop : Prop :=
  (∀ s : State, s.fsm = .psDone → s.psCtx = .idPre →
    (s.lastClass = .busy → blockStep s = .next { s with fsm := .idPreLog }) ∧
    (s.lastClass ≠ .busy → blockStep s = .next { s with fsm := .idCmd })) ∧
  (∀ s : State, s.fsm = .idPreLog →
    blockStep s = .next { s with
      trace := .emit .busyIteration :: s.trace, psCtx := .idPre, psCount := 0, fsm := .psRead })

/-- Rule R173: the post-command loop, for both values of `LOG_POST_BUSY`. -/
def Obligations.PostCommandLoop : Prop :=
  (∀ s : State, s.fsm = .psDone → s.psCtx = .idPost →
    (s.lastClass = .busy → s.params.logPostBusy = true → blockStep s = .next { s with fsm := .idPostLog }) ∧
    (s.lastClass = .busy → s.params.logPostBusy = false →
      blockStep s = .next { s with psCount := 0, fsm := .psRead }) ∧
    (s.lastClass = .error → blockStep s = .next { s with erCtx := .ident, fsm := .erRead }) ∧
    (s.lastClass ≠ .busy → s.lastClass ≠ .error → blockStep s = .next { s with xferK := 0, fsm := .idXfer })) ∧
  (∀ s : State, s.fsm = .idPostLog →
    blockStep s = .next { s with
      trace := .emit .busyIteration :: s.trace, psCtx := .idPost, psCount := 0, fsm := .psRead })

/-- Rule R218: a device that stays Busy (its answers by log entry 3) keeps IDENTIFY_DEVICE in its pre-command loop,
and in its post-command loop for both values of `LOG_POST_BUSY`, for as long as it does so; neither loop has a bound.
-/
def Obligations.BusyDeviceKeepsTheLoop : Prop :=
  ∀ (m : Nat) (s : State), s.fsm = .psRead → s.psCount = 0 → s.host = [] → 1 ≤ s.params.nDiscard →
    s.draws.length = m * (s.params.nDiscard + 1) → (∀ v ∈ s.draws, classify (lo8 v) = .busy) →
    (s.psCtx = .idPre →
      ∃ (t : State) (new : List Event),
        steps (m * (2 * s.params.nDiscard + 3)) s = .next t ∧
        t.fsm = .psRead ∧ t.psCtx = .idPre ∧ t.psCount = 0 ∧ t.op = s.op ∧ t.draws = [] ∧
        t.trace = new ++ s.trace ∧ countEvents isBusyIteration new = m ∧
        countEvents isStatusRead new = m * (s.params.nDiscard + 1)) ∧
    (s.psCtx = .idPost →
      ∃ (t : State) (new : List Event),
        steps (m * (2 * s.params.nDiscard + if s.params.logPostBusy then 3 else 2)) s = .next t ∧
        t.fsm = .psRead ∧ t.psCtx = .idPost ∧ t.psCount = 0 ∧ t.op = s.op ∧ t.draws = [] ∧
        t.trace = new ++ s.trace ∧ countEvents isBusyIteration new = (if s.params.logPostBusy then m else 0) ∧
        countEvents isStatusRead new = m * (s.params.nDiscard + 1))

/-- Rule R175: the transfer is exactly 256 data reads with no other event between them; the `k`-th lands in
`s.ident_w[k]`; the buffer is then valid. That the values read are the device's listed answers where it lists any is
the model's choice (log entry 3). -/
def Obligations.TransferReads256Words : Prop :=
  ∀ s : State, s.fsm = .idXfer → s.xferK = 0 → s.host = [] →
    ∃ (ws : List Word) (buffer : Vector Word 256),
      ws.length = 256 ∧ (∀ k, k < 256 → ws[k]? = some (wordAt buffer k)) ∧
      (∀ (k : Nat) (v : Word), k < 256 → s.draws[k]? = some v → ws[k]? = some v) ∧
      steps 256 s = .next { s with
        identW := buffer
        xferK := 256
        identValid := true
        draws := s.draws.drop 256
        trace := (ws.map fun w => .memRead .data 2 w).reverse ++ s.trace
        fsm := if s.lastClass = .error then .idDump else .idFields }

/-- Rule R176: the field report, then the dump, then the end. -/
def Obligations.IdentifyCompletion : Prop :=
  (∀ s : State, s.fsm = .idFields →
    blockStep s = .next { s with
      trace := .emit (.fieldsReport (fieldsOf s.params s.identW)) :: s.trace, fsm := .idDump }) ∧
  (∀ s : State, s.fsm = .idDump →
    blockStep s = .next { s with trace := .emit (.dumpRequest (byteView s.identW)) :: s.trace, fsm := .idDone }) ∧
  (∀ s : State, s.fsm = .idDone → blockStep s = .next { s with op := .none, fsm := .idle })

/-- Rules R179, R180, R185 to R187: the fields reported and the field registers' words, on the words as numbers. Rule
R186: the LBA total is the full 32-bit double word. -/
def Obligations.FieldViews : Prop :=
  ∀ (p : Params) (w : Vector Word 256),
    (fieldsOf p w).genconf = wordAt w 0 ∧
    ((fieldsOf p w).removable = true ↔ (wordAt w 0).toNat / 2 ^ p.gcRemovableBit.val % 2 = 1) ∧
    ((fieldsOf p w).fixed = true ↔ (wordAt w 0).toNat / 2 ^ p.gcFixedBit.val % 2 = 1) ∧
    (fieldsOf p w).cylinders = wordAt w 1 ∧ (fieldsOf p w).heads = wordAt w 3 ∧ (fieldsOf p w).sectors = wordAt w 6 ∧
    caps w = wordAt w 49 ∧
    ((fieldsOf p w).lbaSupported = true ↔ (wordAt w 49).toNat / 512 % 2 = 1) ∧
    ((fieldsOf p w).dmaSupported = true ↔ (wordAt w 49).toNat / 256 % 2 = 1) ∧
    (fieldsOf p w).lba28Total.toNat = (wordAt w 61).toNat * 65536 + (wordAt w 60).toNat ∧
    cmdset83 w = wordAt w 83 ∧
    ((fieldsOf p w).lba48Supported = true ↔ (wordAt w 83).toNat / 1024 % 2 = 1)

/-- Rules R181 to R184: an extracted string is each word's low byte, then its high byte, and a forced terminator;
`display` is what comes before the first 0x00. That a FieldsReport carries the extracted strings with their
terminators is the model's reading (log entry 16). -/
def Obligations.StringExtraction : Prop :=
  (∀ (w : Vector Word 256) (base n : Nat),
    (strField w base n).length = 2 * n + 1 ∧
    (∀ j, j < n → (strField w base n)[2 * j]? = some (lo8 (wordAt w (base + j))) ∧
      (strField w base n)[2 * j + 1]? = some (hi8 (wordAt w (base + j)))) ∧
    (strField w base n)[2 * n]? = some 0x00#8) ∧
  (∀ (w : Vector Word 256) (base n : Nat), ∃ z,
    (strField w base n)[z]? = some 0x00#8 ∧
    (∀ i, i < z → (strField w base n)[i]? ≠ some 0x00#8) ∧
    display (strField w base n) = (strField w base n).take z) ∧
  (∀ w : Vector Word 256, serial w = strField w 10 10 ∧ firmware w = strField w 23 4 ∧ model w = strField w 27 20) ∧
  (∀ (p : Params) (w : Vector Word 256),
    (fieldsOf p w).serial = strField w 10 10 ∧ (fieldsOf p w).firmware = strField w 23 4 ∧
    (fieldsOf p w).model = strField w 27 20)

/-- Rule R54: the byte view has 512 bytes, each word's low byte first, and it is what DumpRequest hands over. -/
def Obligations.ByteViewIsLowByteFirst : Prop :=
  (∀ w : Vector Word 256, (byteView w).length = 512 ∧
    ∀ k, k < 256 → (byteView w)[2 * k]? = some (lo8 (wordAt w k)) ∧
      (byteView w)[2 * k + 1]? = some (hi8 (wordAt w k))) ∧
  (∀ (s t : State) (bytes : List Byte), step s = .next t → t.trace = .emit (.dumpRequest bytes) :: s.trace →
    bytes = byteView s.identW)

/-- IDENTIFY_DEVICE from its acceptance to its end (rule R190; its access counts are rule R191, the spec's
derivation), for a device that is not Busy and whose class after the command is not Error (the Busy loops and the
error branch are `PreCommandLoop`, `PostCommandLoop`, `BusyDeviceKeepsTheLoop`, `ErrorReportEmitsEachSetBit` and
`ErrorReportDoneDispatches`; the device's answers by log entry 3): one command write, 256 data reads, the report, the
dump, and the words read are in the buffer the host sees. -/
def Obligations.IdentifyRunsToItsEnd : Prop :=
  ∀ (s : State) (vs us ws : List Word) (b c : Word),
    s.fsm = .idle → s.detected = true → s.host = [.write 0x000 0x0004#16] → 1 ≤ s.params.nDiscard →
    vs.length = s.params.nDiscard → us.length = s.params.nDiscard → ws.length = 256 →
    s.draws = vs ++ b :: (us ++ c :: ws) →
    classify (lo8 b) ≠ .busy → classify (lo8 c) ≠ .busy → classify (lo8 c) ≠ .error →
    ∃ (k : Nat) (t : State) (buffer : Vector Word 256),
      steps k s = .next t ∧
      (∀ j, j < 256 → ws[j]? = some (wordAt buffer j) ∧ hostReg (0x100 + j) t = some (wordAt buffer j)) ∧
      t = { s with
        host := []
        op := .none
        psCtx := .idPost
        psCount := s.params.nDiscard
        rawStatus := lo8 c
        lastClass := classify (lo8 c)
        classValid := true
        errValid := false
        identW := buffer
        xferK := 256
        identValid := true
        device := { s.device with command := 0xEC#8 }
        draws := []
        trace := .emit (.dumpRequest (byteView buffer)) :: .emit (.fieldsReport (fieldsOf s.params buffer)) ::
          ((ws.map fun w => .memRead .data 2 w).reverse ++
            pollTrace s.params.tSettleNs (us.map lo8) (lo8 c)
              (.memWrite .statusCommand 1 0x00EC#16 ::
                pollTrace s.params.tSettleNs (vs.map lo8) (lo8 b) s.trace)) }

/-! ### The host register map (spec/30_encoding.md) -/

/-- Rule R75: every field of CSR; rule R84: the number of each Device Status in LAST_CLASS. -/
def Obligations.CsrFields : Prop :=
  ∀ s : State,
    ((csr s).getLsbD 0 = true ↔ s.fsm ≠ .idle) ∧
    (csr s).getLsbD 1 = s.refused ∧
    (csr s).getLsbD 2 = s.classValid ∧
    (s.classValid = true → (csr s).extractLsb' 3 3 =
        match s.lastClass with
        | .ready => 0#3
        | .notPresent => 1#3
        | .busy => 2#3
        | .error => 3#3
        | .fault => 4#3
        | .notReady => 5#3) ∧
    (s.classValid = false → (csr s).extractLsb' 3 3 = 0#3) ∧
    (csr s).getLsbD 6 = s.detectOk ∧
    (csr s).getLsbD 7 = s.detected ∧
    (csr s).getLsbD 8 = s.errValid ∧
    ((csr s).getLsbD 9 = true ↔ s.errValid = true ∧ s.errFlags = 0#8) ∧
    (csr s).getLsbD 10 = s.identValid ∧
    (csr s).extractLsb' 11 1 = (if s.detected then s.selDrive else 0#1) ∧
    (csr s).extractLsb' 12 3 = BitVec.ofNat 3 s.attempts ∧
    (csr s).getLsbD 15 = false

/-- Rules R76 to R78 and the IDENT_WORD window of rule R74: the registers behind their gates. -/
def Obligations.GatedRegisters : Prop :=
  ∀ s : State,
    hostReg 0x001 s = some (csr s) ∧
    hostReg 0x002 s = some (if s.classValid then zext16 s.rawStatus else 0#16) ∧
    hostReg 0x003 s = some (if s.errValid then zext16 s.errFlags else 0#16) ∧
    hostReg 0x004 s = some (if s.identValid then wordAt s.identW 0 else 0#16) ∧
    hostReg 0x005 s = some (if s.identValid then wordAt s.identW 1 else 0#16) ∧
    hostReg 0x006 s = some (if s.identValid then wordAt s.identW 3 else 0#16) ∧
    hostReg 0x007 s = some (if s.identValid then wordAt s.identW 6 else 0#16) ∧
    hostReg 0x008 s = some (if s.identValid then wordAt s.identW 49 else 0#16) ∧
    hostReg 0x009 s = some (if s.identValid then wordAt s.identW 60 else 0#16) ∧
    hostReg 0x00A s = some (if s.identValid then wordAt s.identW 61 else 0#16) ∧
    hostReg 0x00B s = some (if s.identValid then wordAt s.identW 83 else 0#16) ∧
    (∃ f : Word, hostReg 0x00C s = some f ∧
      (f.getLsbD 0 = (s.identValid && lbaSupported s.identW)) ∧
      (f.getLsbD 1 = (s.identValid && dmaSupported s.identW)) ∧
      (f.getLsbD 2 = (s.identValid && lba48Supported s.identW)) ∧
      (f.getLsbD 3 = (s.identValid && removable s.params s.identW)) ∧
      (f.getLsbD 4 = (s.identValid && fixedMedia s.params s.identW)) ∧
      f.toNat < 32) ∧
    (∀ i b, (strField s.identW 10 10)[i]? = some b →
      hostReg (0x020 + i) s = some (if s.identValid then zext16 b else 0#16)) ∧
    (∀ i b, (strField s.identW 23 4)[i]? = some b →
      hostReg (0x038 + i) s = some (if s.identValid then zext16 b else 0#16)) ∧
    (∀ i b, (strField s.identW 27 20)[i]? = some b →
      hostReg (0x048 + i) s = some (if s.identValid then zext16 b else 0#16)) ∧
    (∀ k, k < 256 → hostReg (0x100 + k) s = some (if s.identValid then wordAt s.identW k else 0#16))

/-- Rule R74: which host addresses a read is refused at. -/
def Obligations.UnmappedHostAddresses : Prop :=
  ∀ (s : State) (a : Nat),
    hostReg a s = none ↔
      ¬((0x001 ≤ a ∧ a ≤ 0x00C) ∨ (0x020 ≤ a ∧ a ≤ 0x034) ∨ (0x038 ≤ a ∧ a ≤ 0x040) ∨ (0x048 ≤ a ∧ a ≤ 0x070) ∨
        (0x100 ≤ a ∧ a ≤ 0x1FF))

/-- Rules R39 and R74: no host read tells two states apart that differ only in elements the spec calls unspecified and
hides behind their valid bits. -/
def Obligations.HostNeverSeesHiddenState : Prop :=
  ∀ (s t : State) (a : Nat), hiddenDiffer s t → hostReg a s = hostReg a t

/-! ### Whole-machine rules -/

/-- Rule R6: a step performs at most one port event. -/
def Obligations.OneEventPerStep : Prop :=
  ∀ s t : State, step s = .next t → t.trace = s.trace ∨ ∃ e, t.trace = e :: s.trace

/-- Rule R52 (with the values of rules R79, R83 and R147): the block makes no device access but those of the table,
each at its width and in its state; 0xEC is the only command code. -/
def Obligations.DeviceAccessesAreThoseOfTheTable : Prop :=
  ∀ (s t : State) (e : Event), step s = .next t → t.trace = e :: s.trace → accessAllowed s.fsm e = true

/-- Rule R150, which the spec marks as its derivation: the device keeps what the block writes, register by register,
and nothing else changes it, not even a reset of the block (rule R242). -/
def Obligations.DeviceKeepsTheLastWrites : Prop :=
  ∀ s t : State, step s = .next t →
    (∀ r n v, t.trace = .memWrite r n v :: s.trace → t.device = s.device.write r v) ∧
    ((∀ r n v, t.trace ≠ .memWrite r n v :: s.trace) → t.device = s.device)

/-- Rules R27 to R34 and R36: every state that writes a result register or the identify buffer, the reset input aside.
-/
def Obligations.WritersOfTheResultRegisters : Prop :=
  ∀ s t : State, step s = .next t → (∀ rest, s.host ≠ .reset :: rest) →
    (t.rawStatus ≠ s.rawStatus ∨ t.lastClass ≠ s.lastClass ∨ t.classValid ≠ s.classValid → s.fsm = .psAuth) ∧
    (t.errFlags ≠ s.errFlags → s.fsm = .erRead) ∧
    (t.errValid ≠ s.errValid → s.fsm = .erRead ∨ (s.fsm = .idle ∧ t.op = .identifyDevice)) ∧
    (t.selDrive ≠ s.selDrive ∨ t.budget ≠ s.budget → s.fsm = .idle ∧ t.op = .detectDrive) ∧
    (t.attempts ≠ s.attempts →
      (s.fsm = .idle ∧ t.op = .detectDrive ∧ t.attempts = 0) ∨ (s.fsm = .ddSelect ∧ t.attempts = s.attempts + 1)) ∧
    (s.detectOk = false → t.detectOk = true → s.fsm = .ddRbR2 ∧ readByte .cylLow s = 0x34#8) ∧
    (s.detectOk = true → t.detectOk = false →
      (s.fsm = .idle ∧ t.op = .detectDrive) ∨
      (s.fsm = .ddEval ∧ s.lastClass ≠ .notReady ∧ s.lastClass ≠ .ready) ∨
      (s.fsm = .ddWait ∧ s.delayLeft = some 0 ∧ s.budget ≤ s.attempts) ∨
      (s.fsm = .ddRbR1 ∧ readByte .cylLow s ≠ 0x12#8) ∨ (s.fsm = .ddRbR2 ∧ readByte .cylLow s ≠ 0x34#8)) ∧
    (t.identW ≠ s.identW → s.fsm = .idXfer) ∧
    (∀ k, wordAt t.identW k ≠ wordAt s.identW k → k = s.xferK) ∧
    (s.detected = false → t.detected = true → s.fsm = .ddDone ∧ s.detectOk = true) ∧
    (s.detected = true → t.detected = false →
      (s.fsm = .idle ∧ t.op = .detectDrive) ∨ (s.fsm = .ddDone ∧ s.detectOk = false)) ∧
    (t.xferK ≠ s.xferK →
      (s.fsm = .idXfer ∧ t.xferK = s.xferK + 1) ∨
      (t.xferK = 0 ∧ ((s.fsm = .idle ∧ t.op = .identifyDevice) ∨ (s.fsm = .psDone ∧ s.psCtx = .idPost) ∨
        (s.fsm = .erDone ∧ s.erCtx = .ident)))) ∧
    (s.identValid = false → t.identValid = true → s.fsm = .idXfer ∧ t.xferK = 256) ∧
    (s.identValid = true → t.identValid = false →
      s.fsm = .idle ∧ (t.op = .detectDrive ∨ t.op = .identifyDevice))

/-- Rule R40: no step changes the parameters, which the model carries in State (log entry 5). -/
def Obligations.ParametersNeverChange : Prop :=
  ∀ s t : State, step s = .next t → t.params = s.params

/-- Rules R240 to R242 (R241 is the spec's derivation; what the model keeps besides is log entry 13): the reset input,
in any state, puts the block in `IDLE` with no operation, no valid bit and no delay awaited; `s.refused`, the device
and the trace are unchanged; the host sees CSR = 0x0000, or 0x0002 after a refusal. -/
def Obligations.ResetInput : Prop :=
  ∀ (s : State) (rest : List HostAction), s.host = .reset :: rest →
    ∃ t, step s = .next t ∧ t.host = rest ∧
      t.fsm = .idle ∧ t.op = .none ∧ t.classValid = false ∧ t.errValid = false ∧ t.identValid = false ∧
      t.detectOk = false ∧ t.detected = false ∧ t.psCount = 0 ∧ t.erI = 0 ∧ t.xferK = 0 ∧ t.attempts = 0 ∧
      t.delayLeft = none ∧ t.refused = s.refused ∧ t.device = s.device ∧ t.trace = s.trace ∧ t.params = s.params ∧
      csr t = (if s.refused then 0x0002#16 else 0x0000#16)

/-- Rule R243 (the spec's derivation) and rule R214: in `IDLE` the block waits for a command, and in `DD_WAIT` a delay
that never completes keeps it there for ever. -/
def Obligations.WaitsWithoutBound : Prop :=
  ∀ (s : State) (k : Nat), s.host = [] →
    (s.fsm = .idle → steps k s = .next s) ∧
    (s.fsm = .ddWait → s.delayLeft = none → steps k s = .next s)

/-- The state after reset, with the values log entry 6 names where the spec gives none, meets the invariant. -/
def Obligations.ResetMeetsTheInvariant : Prop := State.reset.Inv

/-- Every step keeps the invariant, whatever the device, the host and the delay collaborator do (rules R22 to R26,
R31, R32, R34, R126). Its clause that the budget is the selected drive's holds across the reset input by the values of
log entry 6, the model's choice: rule R39 leaves both unspecified there. -/
def Obligations.EveryStepKeepsTheInvariant : Prop :=
  ∀ s t : State, s.Inv → step s = .next t → t.Inv

/-- A state that meets the invariant always has a next state: neither fault of the model (log entry 9) is ever
reached, and every run goes on (rules R210, R218). The next states meet the invariant too, across the reset input by
the values of log entry 6, the model's choice. -/
def Obligations.InvariantStatesNeverStop : Prop :=
  ∀ (k : Nat) (s : State), s.Inv → ∃ t, steps k s = .next t ∧ t.Inv

/-- Rule R234: a run is at a good end in `IDLE`, with nothing refused and no command left to write. What the host still does
there without being refused, reads and waits and the reset input, keeps the good end and touches neither the device nor the
trace. -/
def Obligations.GoodEndIsKept : Prop :=
  (∀ s : State, s.GoodEnd ↔
    s.fsm = .idle ∧ s.refused = false ∧ ∀ w : Word, HostAction.write 0x000 w ∉ s.host) ∧
  (∀ s t : State, s.GoodEnd → step s = .next t → t.refused = false →
    t.GoodEnd ∧ t.device = s.device ∧ t.trace = s.trace) ∧
  (∀ s : State, s.GoodEnd → (∀ a v, HostAction.write a v ∉ s.host) → (∀ a, HostAction.read a ∈ s.host → hostReg a s ≠ none) →
    ∀ k, ∃ t, steps k s = .next t ∧ t.GoodEnd)
end

