-- ==== Sys2Proof/Laws/State.lean ====
section
/-! SUPPORT. For each shared operation on a state, what each field holds after it: one lemma per field, true by definition,
so that no later proof unfolds a record update. -/

namespace Sys2Proof.Machine

variable (s : State)

/-! ### portRead -/

@[simp] theorem portRead_fsm (r : DevReg) : (portRead r s).fsm = s.fsm := rfl
@[simp] theorem portRead_op (r : DevReg) : (portRead r s).op = s.op := rfl
@[simp] theorem portRead_psCtx (r : DevReg) : (portRead r s).psCtx = s.psCtx := rfl
@[simp] theorem portRead_psCount (r : DevReg) : (portRead r s).psCount = s.psCount := rfl
@[simp] theorem portRead_erCtx (r : DevReg) : (portRead r s).erCtx = s.erCtx := rfl
@[simp] theorem portRead_erI (r : DevReg) : (portRead r s).erI = s.erI := rfl
@[simp] theorem portRead_rawStatus (r : DevReg) : (portRead r s).rawStatus = s.rawStatus := rfl
@[simp] theorem portRead_lastClass (r : DevReg) : (portRead r s).lastClass = s.lastClass := rfl
@[simp] theorem portRead_classValid (r : DevReg) : (portRead r s).classValid = s.classValid := rfl
@[simp] theorem portRead_errFlags (r : DevReg) : (portRead r s).errFlags = s.errFlags := rfl
@[simp] theorem portRead_errValid (r : DevReg) : (portRead r s).errValid = s.errValid := rfl
@[simp] theorem portRead_selDrive (r : DevReg) : (portRead r s).selDrive = s.selDrive := rfl
@[simp] theorem portRead_budget (r : DevReg) : (portRead r s).budget = s.budget := rfl
@[simp] theorem portRead_attempts (r : DevReg) : (portRead r s).attempts = s.attempts := rfl
@[simp] theorem portRead_detectOk (r : DevReg) : (portRead r s).detectOk = s.detectOk := rfl
@[simp] theorem portRead_detected (r : DevReg) : (portRead r s).detected = s.detected := rfl
@[simp] theorem portRead_identW (r : DevReg) : (portRead r s).identW = s.identW := rfl
@[simp] theorem portRead_xferK (r : DevReg) : (portRead r s).xferK = s.xferK := rfl
@[simp] theorem portRead_identValid (r : DevReg) : (portRead r s).identValid = s.identValid := rfl
@[simp] theorem portRead_refused (r : DevReg) : (portRead r s).refused = s.refused := rfl
@[simp] theorem portRead_params (r : DevReg) : (portRead r s).params = s.params := rfl
@[simp] theorem portRead_trace (r : DevReg) : (portRead r s).trace = .memRead r r.bytes (readValue r s) :: s.trace := rfl
@[simp] theorem portRead_device (r : DevReg) : (portRead r s).device = s.device := rfl
@[simp] theorem portRead_draws (r : DevReg) : (portRead r s).draws = s.draws.tail := rfl
@[simp] theorem portRead_delays (r : DevReg) : (portRead r s).delays = s.delays := rfl
@[simp] theorem portRead_delayLeft (r : DevReg) : (portRead r s).delayLeft = s.delayLeft := rfl
@[simp] theorem portRead_host (r : DevReg) : (portRead r s).host = s.host := rfl
@[simp] theorem portRead_hostLog (r : DevReg) : (portRead r s).hostLog = s.hostLog := rfl

/-! ### portWrite -/

@[simp] theorem portWrite_fsm (r : DevReg) (v : Word) : (portWrite r v s).fsm = s.fsm := rfl
@[simp] theorem portWrite_op (r : DevReg) (v : Word) : (portWrite r v s).op = s.op := rfl
@[simp] theorem portWrite_psCtx (r : DevReg) (v : Word) : (portWrite r v s).psCtx = s.psCtx := rfl
@[simp] theorem portWrite_psCount (r : DevReg) (v : Word) : (portWrite r v s).psCount = s.psCount := rfl
@[simp] theorem portWrite_erCtx (r : DevReg) (v : Word) : (portWrite r v s).erCtx = s.erCtx := rfl
@[simp] theorem portWrite_erI (r : DevReg) (v : Word) : (portWrite r v s).erI = s.erI := rfl
@[simp] theorem portWrite_rawStatus (r : DevReg) (v : Word) : (portWrite r v s).rawStatus = s.rawStatus := rfl
@[simp] theorem portWrite_lastClass (r : DevReg) (v : Word) : (portWrite r v s).lastClass = s.lastClass := rfl
@[simp] theorem portWrite_classValid (r : DevReg) (v : Word) : (portWrite r v s).classValid = s.classValid := rfl
@[simp] theorem portWrite_errFlags (r : DevReg) (v : Word) : (portWrite r v s).errFlags = s.errFlags := rfl
@[simp] theorem portWrite_errValid (r : DevReg) (v : Word) : (portWrite r v s).errValid = s.errValid := rfl
@[simp] theorem portWrite_selDrive (r : DevReg) (v : Word) : (portWrite r v s).selDrive = s.selDrive := rfl
@[simp] theorem portWrite_budget (r : DevReg) (v : Word) : (portWrite r v s).budget = s.budget := rfl
@[simp] theorem portWrite_attempts (r : DevReg) (v : Word) : (portWrite r v s).attempts = s.attempts := rfl
@[simp] theorem portWrite_detectOk (r : DevReg) (v : Word) : (portWrite r v s).detectOk = s.detectOk := rfl
@[simp] theorem portWrite_detected (r : DevReg) (v : Word) : (portWrite r v s).detected = s.detected := rfl
@[simp] theorem portWrite_identW (r : DevReg) (v : Word) : (portWrite r v s).identW = s.identW := rfl
@[simp] theorem portWrite_xferK (r : DevReg) (v : Word) : (portWrite r v s).xferK = s.xferK := rfl
@[simp] theorem portWrite_identValid (r : DevReg) (v : Word) : (portWrite r v s).identValid = s.identValid := rfl
@[simp] theorem portWrite_refused (r : DevReg) (v : Word) : (portWrite r v s).refused = s.refused := rfl
@[simp] theorem portWrite_params (r : DevReg) (v : Word) : (portWrite r v s).params = s.params := rfl
@[simp] theorem portWrite_trace (r : DevReg) (v : Word) : (portWrite r v s).trace = .memWrite r r.bytes v :: s.trace := rfl
@[simp] theorem portWrite_device (r : DevReg) (v : Word) : (portWrite r v s).device = s.device.write r v := rfl
@[simp] theorem portWrite_draws (r : DevReg) (v : Word) : (portWrite r v s).draws = s.draws := rfl
@[simp] theorem portWrite_delays (r : DevReg) (v : Word) : (portWrite r v s).delays = s.delays := rfl
@[simp] theorem portWrite_delayLeft (r : DevReg) (v : Word) : (portWrite r v s).delayLeft = s.delayLeft := rfl
@[simp] theorem portWrite_host (r : DevReg) (v : Word) : (portWrite r v s).host = s.host := rfl
@[simp] theorem portWrite_hostLog (r : DevReg) (v : Word) : (portWrite r v s).hostLog = s.hostLog := rfl

/-! ### settle -/

@[simp] theorem settle_fsm : (settle s).fsm = s.fsm := rfl
@[simp] theorem settle_op : (settle s).op = s.op := rfl
@[simp] theorem settle_psCtx : (settle s).psCtx = s.psCtx := rfl
@[simp] theorem settle_psCount : (settle s).psCount = s.psCount := rfl
@[simp] theorem settle_erCtx : (settle s).erCtx = s.erCtx := rfl
@[simp] theorem settle_erI : (settle s).erI = s.erI := rfl
@[simp] theorem settle_rawStatus : (settle s).rawStatus = s.rawStatus := rfl
@[simp] theorem settle_lastClass : (settle s).lastClass = s.lastClass := rfl
@[simp] theorem settle_classValid : (settle s).classValid = s.classValid := rfl
@[simp] theorem settle_errFlags : (settle s).errFlags = s.errFlags := rfl
@[simp] theorem settle_errValid : (settle s).errValid = s.errValid := rfl
@[simp] theorem settle_selDrive : (settle s).selDrive = s.selDrive := rfl
@[simp] theorem settle_budget : (settle s).budget = s.budget := rfl
@[simp] theorem settle_attempts : (settle s).attempts = s.attempts := rfl
@[simp] theorem settle_detectOk : (settle s).detectOk = s.detectOk := rfl
@[simp] theorem settle_detected : (settle s).detected = s.detected := rfl
@[simp] theorem settle_identW : (settle s).identW = s.identW := rfl
@[simp] theorem settle_xferK : (settle s).xferK = s.xferK := rfl
@[simp] theorem settle_identValid : (settle s).identValid = s.identValid := rfl
@[simp] theorem settle_refused : (settle s).refused = s.refused := rfl
@[simp] theorem settle_params : (settle s).params = s.params := rfl
@[simp] theorem settle_trace : (settle s).trace = .settle s.params.tSettleNs :: s.trace := rfl
@[simp] theorem settle_device : (settle s).device = s.device := rfl
@[simp] theorem settle_draws : (settle s).draws = s.draws := rfl
@[simp] theorem settle_delays : (settle s).delays = s.delays := rfl
@[simp] theorem settle_delayLeft : (settle s).delayLeft = s.delayLeft := rfl
@[simp] theorem settle_host : (settle s).host = s.host := rfl
@[simp] theorem settle_hostLog : (settle s).hostLog = s.hostLog := rfl

/-! ### requestDelay -/

@[simp] theorem requestDelay_fsm (sec usec : Nat) : (requestDelay sec usec s).fsm = s.fsm := rfl
@[simp] theorem requestDelay_op (sec usec : Nat) : (requestDelay sec usec s).op = s.op := rfl
@[simp] theorem requestDelay_psCtx (sec usec : Nat) : (requestDelay sec usec s).psCtx = s.psCtx := rfl
@[simp] theorem requestDelay_psCount (sec usec : Nat) : (requestDelay sec usec s).psCount = s.psCount := rfl
@[simp] theorem requestDelay_erCtx (sec usec : Nat) : (requestDelay sec usec s).erCtx = s.erCtx := rfl
@[simp] theorem requestDelay_erI (sec usec : Nat) : (requestDelay sec usec s).erI = s.erI := rfl
@[simp] theorem requestDelay_rawStatus (sec usec : Nat) : (requestDelay sec usec s).rawStatus = s.rawStatus := rfl
@[simp] theorem requestDelay_lastClass (sec usec : Nat) : (requestDelay sec usec s).lastClass = s.lastClass := rfl
@[simp] theorem requestDelay_classValid (sec usec : Nat) : (requestDelay sec usec s).classValid = s.classValid := rfl
@[simp] theorem requestDelay_errFlags (sec usec : Nat) : (requestDelay sec usec s).errFlags = s.errFlags := rfl
@[simp] theorem requestDelay_errValid (sec usec : Nat) : (requestDelay sec usec s).errValid = s.errValid := rfl
@[simp] theorem requestDelay_selDrive (sec usec : Nat) : (requestDelay sec usec s).selDrive = s.selDrive := rfl
@[simp] theorem requestDelay_budget (sec usec : Nat) : (requestDelay sec usec s).budget = s.budget := rfl
@[simp] theorem requestDelay_attempts (sec usec : Nat) : (requestDelay sec usec s).attempts = s.attempts := rfl
@[simp] theorem requestDelay_detectOk (sec usec : Nat) : (requestDelay sec usec s).detectOk = s.detectOk := rfl
@[simp] theorem requestDelay_detected (sec usec : Nat) : (requestDelay sec usec s).detected = s.detected := rfl
@[simp] theorem requestDelay_identW (sec usec : Nat) : (requestDelay sec usec s).identW = s.identW := rfl
@[simp] theorem requestDelay_xferK (sec usec : Nat) : (requestDelay sec usec s).xferK = s.xferK := rfl
@[simp] theorem requestDelay_identValid (sec usec : Nat) : (requestDelay sec usec s).identValid = s.identValid := rfl
@[simp] theorem requestDelay_refused (sec usec : Nat) : (requestDelay sec usec s).refused = s.refused := rfl
@[simp] theorem requestDelay_params (sec usec : Nat) : (requestDelay sec usec s).params = s.params := rfl
@[simp] theorem requestDelay_trace (sec usec : Nat) : (requestDelay sec usec s).trace = .delayRequest sec usec :: s.trace := rfl
@[simp] theorem requestDelay_device (sec usec : Nat) : (requestDelay sec usec s).device = s.device := rfl
@[simp] theorem requestDelay_draws (sec usec : Nat) : (requestDelay sec usec s).draws = s.draws := rfl
@[simp] theorem requestDelay_delays (sec usec : Nat) : (requestDelay sec usec s).delays = s.delays.tail := rfl
@[simp] theorem requestDelay_delayLeft (sec usec : Nat) : (requestDelay sec usec s).delayLeft = delayAnswer s := rfl
@[simp] theorem requestDelay_host (sec usec : Nat) : (requestDelay sec usec s).host = s.host := rfl
@[simp] theorem requestDelay_hostLog (sec usec : Nat) : (requestDelay sec usec s).hostLog = s.hostLog := rfl

/-! ### delayCompletes -/

@[simp] theorem delayCompletes_fsm : (delayCompletes s).fsm = s.fsm := rfl
@[simp] theorem delayCompletes_op : (delayCompletes s).op = s.op := rfl
@[simp] theorem delayCompletes_psCtx : (delayCompletes s).psCtx = s.psCtx := rfl
@[simp] theorem delayCompletes_psCount : (delayCompletes s).psCount = s.psCount := rfl
@[simp] theorem delayCompletes_erCtx : (delayCompletes s).erCtx = s.erCtx := rfl
@[simp] theorem delayCompletes_erI : (delayCompletes s).erI = s.erI := rfl
@[simp] theorem delayCompletes_rawStatus : (delayCompletes s).rawStatus = s.rawStatus := rfl
@[simp] theorem delayCompletes_lastClass : (delayCompletes s).lastClass = s.lastClass := rfl
@[simp] theorem delayCompletes_classValid : (delayCompletes s).classValid = s.classValid := rfl
@[simp] theorem delayCompletes_errFlags : (delayCompletes s).errFlags = s.errFlags := rfl
@[simp] theorem delayCompletes_errValid : (delayCompletes s).errValid = s.errValid := rfl
@[simp] theorem delayCompletes_selDrive : (delayCompletes s).selDrive = s.selDrive := rfl
@[simp] theorem delayCompletes_budget : (delayCompletes s).budget = s.budget := rfl
@[simp] theorem delayCompletes_attempts : (delayCompletes s).attempts = s.attempts := rfl
@[simp] theorem delayCompletes_detectOk : (delayCompletes s).detectOk = s.detectOk := rfl
@[simp] theorem delayCompletes_detected : (delayCompletes s).detected = s.detected := rfl
@[simp] theorem delayCompletes_identW : (delayCompletes s).identW = s.identW := rfl
@[simp] theorem delayCompletes_xferK : (delayCompletes s).xferK = s.xferK := rfl
@[simp] theorem delayCompletes_identValid : (delayCompletes s).identValid = s.identValid := rfl
@[simp] theorem delayCompletes_refused : (delayCompletes s).refused = s.refused := rfl
@[simp] theorem delayCompletes_params : (delayCompletes s).params = s.params := rfl
@[simp] theorem delayCompletes_trace : (delayCompletes s).trace = .delayDone :: s.trace := rfl
@[simp] theorem delayCompletes_device : (delayCompletes s).device = s.device := rfl
@[simp] theorem delayCompletes_draws : (delayCompletes s).draws = s.draws := rfl
@[simp] theorem delayCompletes_delays : (delayCompletes s).delays = s.delays := rfl
@[simp] theorem delayCompletes_delayLeft : (delayCompletes s).delayLeft = none := rfl
@[simp] theorem delayCompletes_host : (delayCompletes s).host = s.host := rfl
@[simp] theorem delayCompletes_hostLog : (delayCompletes s).hostLog = s.hostLog := rfl

/-! ### emit -/

@[simp] theorem emit_fsm (d : Diagnostic) : (emit d s).fsm = s.fsm := rfl
@[simp] theorem emit_op (d : Diagnostic) : (emit d s).op = s.op := rfl
@[simp] theorem emit_psCtx (d : Diagnostic) : (emit d s).psCtx = s.psCtx := rfl
@[simp] theorem emit_psCount (d : Diagnostic) : (emit d s).psCount = s.psCount := rfl
@[simp] theorem emit_erCtx (d : Diagnostic) : (emit d s).erCtx = s.erCtx := rfl
@[simp] theorem emit_erI (d : Diagnostic) : (emit d s).erI = s.erI := rfl
@[simp] theorem emit_rawStatus (d : Diagnostic) : (emit d s).rawStatus = s.rawStatus := rfl
@[simp] theorem emit_lastClass (d : Diagnostic) : (emit d s).lastClass = s.lastClass := rfl
@[simp] theorem emit_classValid (d : Diagnostic) : (emit d s).classValid = s.classValid := rfl
@[simp] theorem emit_errFlags (d : Diagnostic) : (emit d s).errFlags = s.errFlags := rfl
@[simp] theorem emit_errValid (d : Diagnostic) : (emit d s).errValid = s.errValid := rfl
@[simp] theorem emit_selDrive (d : Diagnostic) : (emit d s).selDrive = s.selDrive := rfl
@[simp] theorem emit_budget (d : Diagnostic) : (emit d s).budget = s.budget := rfl
@[simp] theorem emit_attempts (d : Diagnostic) : (emit d s).attempts = s.attempts := rfl
@[simp] theorem emit_detectOk (d : Diagnostic) : (emit d s).detectOk = s.detectOk := rfl
@[simp] theorem emit_detected (d : Diagnostic) : (emit d s).detected = s.detected := rfl
@[simp] theorem emit_identW (d : Diagnostic) : (emit d s).identW = s.identW := rfl
@[simp] theorem emit_xferK (d : Diagnostic) : (emit d s).xferK = s.xferK := rfl
@[simp] theorem emit_identValid (d : Diagnostic) : (emit d s).identValid = s.identValid := rfl
@[simp] theorem emit_refused (d : Diagnostic) : (emit d s).refused = s.refused := rfl
@[simp] theorem emit_params (d : Diagnostic) : (emit d s).params = s.params := rfl
@[simp] theorem emit_trace (d : Diagnostic) : (emit d s).trace = .emit d :: s.trace := rfl
@[simp] theorem emit_device (d : Diagnostic) : (emit d s).device = s.device := rfl
@[simp] theorem emit_draws (d : Diagnostic) : (emit d s).draws = s.draws := rfl
@[simp] theorem emit_delays (d : Diagnostic) : (emit d s).delays = s.delays := rfl
@[simp] theorem emit_delayLeft (d : Diagnostic) : (emit d s).delayLeft = s.delayLeft := rfl
@[simp] theorem emit_host (d : Diagnostic) : (emit d s).host = s.host := rfl
@[simp] theorem emit_hostLog (d : Diagnostic) : (emit d s).hostLog = s.hostLog := rfl

/-! ### goto -/

@[simp] theorem goto_fsm (f : Fsm) : (goto f s).fsm = f := rfl
@[simp] theorem goto_op (f : Fsm) : (goto f s).op = s.op := rfl
@[simp] theorem goto_psCtx (f : Fsm) : (goto f s).psCtx = s.psCtx := rfl
@[simp] theorem goto_psCount (f : Fsm) : (goto f s).psCount = s.psCount := rfl
@[simp] theorem goto_erCtx (f : Fsm) : (goto f s).erCtx = s.erCtx := rfl
@[simp] theorem goto_erI (f : Fsm) : (goto f s).erI = s.erI := rfl
@[simp] theorem goto_rawStatus (f : Fsm) : (goto f s).rawStatus = s.rawStatus := rfl
@[simp] theorem goto_lastClass (f : Fsm) : (goto f s).lastClass = s.lastClass := rfl
@[simp] theorem goto_classValid (f : Fsm) : (goto f s).classValid = s.classValid := rfl
@[simp] theorem goto_errFlags (f : Fsm) : (goto f s).errFlags = s.errFlags := rfl
@[simp] theorem goto_errValid (f : Fsm) : (goto f s).errValid = s.errValid := rfl
@[simp] theorem goto_selDrive (f : Fsm) : (goto f s).selDrive = s.selDrive := rfl
@[simp] theorem goto_budget (f : Fsm) : (goto f s).budget = s.budget := rfl
@[simp] theorem goto_attempts (f : Fsm) : (goto f s).attempts = s.attempts := rfl
@[simp] theorem goto_detectOk (f : Fsm) : (goto f s).detectOk = s.detectOk := rfl
@[simp] theorem goto_detected (f : Fsm) : (goto f s).detected = s.detected := rfl
@[simp] theorem goto_identW (f : Fsm) : (goto f s).identW = s.identW := rfl
@[simp] theorem goto_xferK (f : Fsm) : (goto f s).xferK = s.xferK := rfl
@[simp] theorem goto_identValid (f : Fsm) : (goto f s).identValid = s.identValid := rfl
@[simp] theorem goto_refused (f : Fsm) : (goto f s).refused = s.refused := rfl
@[simp] theorem goto_params (f : Fsm) : (goto f s).params = s.params := rfl
@[simp] theorem goto_trace (f : Fsm) : (goto f s).trace = s.trace := rfl
@[simp] theorem goto_device (f : Fsm) : (goto f s).device = s.device := rfl
@[simp] theorem goto_draws (f : Fsm) : (goto f s).draws = s.draws := rfl
@[simp] theorem goto_delays (f : Fsm) : (goto f s).delays = s.delays := rfl
@[simp] theorem goto_delayLeft (f : Fsm) : (goto f s).delayLeft = s.delayLeft := rfl
@[simp] theorem goto_host (f : Fsm) : (goto f s).host = s.host := rfl
@[simp] theorem goto_hostLog (f : Fsm) : (goto f s).hostLog = s.hostLog := rfl

/-! ### refuse -/

@[simp] theorem refuse_fsm (e : RefuseReason) : (refuse e s).fsm = s.fsm := rfl
@[simp] theorem refuse_op (e : RefuseReason) : (refuse e s).op = s.op := rfl
@[simp] theorem refuse_psCtx (e : RefuseReason) : (refuse e s).psCtx = s.psCtx := rfl
@[simp] theorem refuse_psCount (e : RefuseReason) : (refuse e s).psCount = s.psCount := rfl
@[simp] theorem refuse_erCtx (e : RefuseReason) : (refuse e s).erCtx = s.erCtx := rfl
@[simp] theorem refuse_erI (e : RefuseReason) : (refuse e s).erI = s.erI := rfl
@[simp] theorem refuse_rawStatus (e : RefuseReason) : (refuse e s).rawStatus = s.rawStatus := rfl
@[simp] theorem refuse_lastClass (e : RefuseReason) : (refuse e s).lastClass = s.lastClass := rfl
@[simp] theorem refuse_classValid (e : RefuseReason) : (refuse e s).classValid = s.classValid := rfl
@[simp] theorem refuse_errFlags (e : RefuseReason) : (refuse e s).errFlags = s.errFlags := rfl
@[simp] theorem refuse_errValid (e : RefuseReason) : (refuse e s).errValid = s.errValid := rfl
@[simp] theorem refuse_selDrive (e : RefuseReason) : (refuse e s).selDrive = s.selDrive := rfl
@[simp] theorem refuse_budget (e : RefuseReason) : (refuse e s).budget = s.budget := rfl
@[simp] theorem refuse_attempts (e : RefuseReason) : (refuse e s).attempts = s.attempts := rfl
@[simp] theorem refuse_detectOk (e : RefuseReason) : (refuse e s).detectOk = s.detectOk := rfl
@[simp] theorem refuse_detected (e : RefuseReason) : (refuse e s).detected = s.detected := rfl
@[simp] theorem refuse_identW (e : RefuseReason) : (refuse e s).identW = s.identW := rfl
@[simp] theorem refuse_xferK (e : RefuseReason) : (refuse e s).xferK = s.xferK := rfl
@[simp] theorem refuse_identValid (e : RefuseReason) : (refuse e s).identValid = s.identValid := rfl
@[simp] theorem refuse_refused (e : RefuseReason) : (refuse e s).refused = true := rfl
@[simp] theorem refuse_params (e : RefuseReason) : (refuse e s).params = s.params := rfl
@[simp] theorem refuse_trace (e : RefuseReason) : (refuse e s).trace = .refused e :: s.trace := rfl
@[simp] theorem refuse_device (e : RefuseReason) : (refuse e s).device = s.device := rfl
@[simp] theorem refuse_draws (e : RefuseReason) : (refuse e s).draws = s.draws := rfl
@[simp] theorem refuse_delays (e : RefuseReason) : (refuse e s).delays = s.delays := rfl
@[simp] theorem refuse_delayLeft (e : RefuseReason) : (refuse e s).delayLeft = s.delayLeft := rfl
@[simp] theorem refuse_host (e : RefuseReason) : (refuse e s).host = s.host := rfl
@[simp] theorem refuse_hostLog (e : RefuseReason) : (refuse e s).hostLog = s.hostLog := rfl

/-! ### startPoll -/

@[simp] theorem startPoll_fsm (c : PsCtx) : (startPoll c s).fsm = .psRead := rfl
@[simp] theorem startPoll_op (c : PsCtx) : (startPoll c s).op = s.op := rfl
@[simp] theorem startPoll_psCtx (c : PsCtx) : (startPoll c s).psCtx = c := rfl
@[simp] theorem startPoll_psCount (c : PsCtx) : (startPoll c s).psCount = 0 := rfl
@[simp] theorem startPoll_erCtx (c : PsCtx) : (startPoll c s).erCtx = s.erCtx := rfl
@[simp] theorem startPoll_erI (c : PsCtx) : (startPoll c s).erI = s.erI := rfl
@[simp] theorem startPoll_rawStatus (c : PsCtx) : (startPoll c s).rawStatus = s.rawStatus := rfl
@[simp] theorem startPoll_lastClass (c : PsCtx) : (startPoll c s).lastClass = s.lastClass := rfl
@[simp] theorem startPoll_classValid (c : PsCtx) : (startPoll c s).classValid = s.classValid := rfl
@[simp] theorem startPoll_errFlags (c : PsCtx) : (startPoll c s).errFlags = s.errFlags := rfl
@[simp] theorem startPoll_errValid (c : PsCtx) : (startPoll c s).errValid = s.errValid := rfl
@[simp] theorem startPoll_selDrive (c : PsCtx) : (startPoll c s).selDrive = s.selDrive := rfl
@[simp] theorem startPoll_budget (c : PsCtx) : (startPoll c s).budget = s.budget := rfl
@[simp] theorem startPoll_attempts (c : PsCtx) : (startPoll c s).attempts = s.attempts := rfl
@[simp] theorem startPoll_detectOk (c : PsCtx) : (startPoll c s).detectOk = s.detectOk := rfl
@[simp] theorem startPoll_detected (c : PsCtx) : (startPoll c s).detected = s.detected := rfl
@[simp] theorem startPoll_identW (c : PsCtx) : (startPoll c s).identW = s.identW := rfl
@[simp] theorem startPoll_xferK (c : PsCtx) : (startPoll c s).xferK = s.xferK := rfl
@[simp] theorem startPoll_identValid (c : PsCtx) : (startPoll c s).identValid = s.identValid := rfl
@[simp] theorem startPoll_refused (c : PsCtx) : (startPoll c s).refused = s.refused := rfl
@[simp] theorem startPoll_params (c : PsCtx) : (startPoll c s).params = s.params := rfl
@[simp] theorem startPoll_trace (c : PsCtx) : (startPoll c s).trace = s.trace := rfl
@[simp] theorem startPoll_device (c : PsCtx) : (startPoll c s).device = s.device := rfl
@[simp] theorem startPoll_draws (c : PsCtx) : (startPoll c s).draws = s.draws := rfl
@[simp] theorem startPoll_delays (c : PsCtx) : (startPoll c s).delays = s.delays := rfl
@[simp] theorem startPoll_delayLeft (c : PsCtx) : (startPoll c s).delayLeft = s.delayLeft := rfl
@[simp] theorem startPoll_host (c : PsCtx) : (startPoll c s).host = s.host := rfl
@[simp] theorem startPoll_hostLog (c : PsCtx) : (startPoll c s).hostLog = s.hostLog := rfl

/-! ### startErrorReport -/

@[simp] theorem startErrorReport_fsm (c : ErCtx) : (startErrorReport c s).fsm = .erRead := rfl
@[simp] theorem startErrorReport_op (c : ErCtx) : (startErrorReport c s).op = s.op := rfl
@[simp] theorem startErrorReport_psCtx (c : ErCtx) : (startErrorReport c s).psCtx = s.psCtx := rfl
@[simp] theorem startErrorReport_psCount (c : ErCtx) : (startErrorReport c s).psCount = s.psCount := rfl
@[simp] theorem startErrorReport_erCtx (c : ErCtx) : (startErrorReport c s).erCtx = c := rfl
@[simp] theorem startErrorReport_erI (c : ErCtx) : (startErrorReport c s).erI = s.erI := rfl
@[simp] theorem startErrorReport_rawStatus (c : ErCtx) : (startErrorReport c s).rawStatus = s.rawStatus := rfl
@[simp] theorem startErrorReport_lastClass (c : ErCtx) : (startErrorReport c s).lastClass = s.lastClass := rfl
@[simp] theorem startErrorReport_classValid (c : ErCtx) : (startErrorReport c s).classValid = s.classValid := rfl
@[simp] theorem startErrorReport_errFlags (c : ErCtx) : (startErrorReport c s).errFlags = s.errFlags := rfl
@[simp] theorem startErrorReport_errValid (c : ErCtx) : (startErrorReport c s).errValid = s.errValid := rfl
@[simp] theorem startErrorReport_selDrive (c : ErCtx) : (startErrorReport c s).selDrive = s.selDrive := rfl
@[simp] theorem startErrorReport_budget (c : ErCtx) : (startErrorReport c s).budget = s.budget := rfl
@[simp] theorem startErrorReport_attempts (c : ErCtx) : (startErrorReport c s).attempts = s.attempts := rfl
@[simp] theorem startErrorReport_detectOk (c : ErCtx) : (startErrorReport c s).detectOk = s.detectOk := rfl
@[simp] theorem startErrorReport_detected (c : ErCtx) : (startErrorReport c s).detected = s.detected := rfl
@[simp] theorem startErrorReport_identW (c : ErCtx) : (startErrorReport c s).identW = s.identW := rfl
@[simp] theorem startErrorReport_xferK (c : ErCtx) : (startErrorReport c s).xferK = s.xferK := rfl
@[simp] theorem startErrorReport_identValid (c : ErCtx) : (startErrorReport c s).identValid = s.identValid := rfl
@[simp] theorem startErrorReport_refused (c : ErCtx) : (startErrorReport c s).refused = s.refused := rfl
@[simp] theorem startErrorReport_params (c : ErCtx) : (startErrorReport c s).params = s.params := rfl
@[simp] theorem startErrorReport_trace (c : ErCtx) : (startErrorReport c s).trace = s.trace := rfl
@[simp] theorem startErrorReport_device (c : ErCtx) : (startErrorReport c s).device = s.device := rfl
@[simp] theorem startErrorReport_draws (c : ErCtx) : (startErrorReport c s).draws = s.draws := rfl
@[simp] theorem startErrorReport_delays (c : ErCtx) : (startErrorReport c s).delays = s.delays := rfl
@[simp] theorem startErrorReport_delayLeft (c : ErCtx) : (startErrorReport c s).delayLeft = s.delayLeft := rfl
@[simp] theorem startErrorReport_host (c : ErCtx) : (startErrorReport c s).host = s.host := rfl
@[simp] theorem startErrorReport_hostLog (c : ErCtx) : (startErrorReport c s).hostLog = s.hostLog := rfl

/-! ### startTransfer -/

@[simp] theorem startTransfer_fsm : (startTransfer s).fsm = .idXfer := rfl
@[simp] theorem startTransfer_op : (startTransfer s).op = s.op := rfl
@[simp] theorem startTransfer_psCtx : (startTransfer s).psCtx = s.psCtx := rfl
@[simp] theorem startTransfer_psCount : (startTransfer s).psCount = s.psCount := rfl
@[simp] theorem startTransfer_erCtx : (startTransfer s).erCtx = s.erCtx := rfl
@[simp] theorem startTransfer_erI : (startTransfer s).erI = s.erI := rfl
@[simp] theorem startTransfer_rawStatus : (startTransfer s).rawStatus = s.rawStatus := rfl
@[simp] theorem startTransfer_lastClass : (startTransfer s).lastClass = s.lastClass := rfl
@[simp] theorem startTransfer_classValid : (startTransfer s).classValid = s.classValid := rfl
@[simp] theorem startTransfer_errFlags : (startTransfer s).errFlags = s.errFlags := rfl
@[simp] theorem startTransfer_errValid : (startTransfer s).errValid = s.errValid := rfl
@[simp] theorem startTransfer_selDrive : (startTransfer s).selDrive = s.selDrive := rfl
@[simp] theorem startTransfer_budget : (startTransfer s).budget = s.budget := rfl
@[simp] theorem startTransfer_attempts : (startTransfer s).attempts = s.attempts := rfl
@[simp] theorem startTransfer_detectOk : (startTransfer s).detectOk = s.detectOk := rfl
@[simp] theorem startTransfer_detected : (startTransfer s).detected = s.detected := rfl
@[simp] theorem startTransfer_identW : (startTransfer s).identW = s.identW := rfl
@[simp] theorem startTransfer_xferK : (startTransfer s).xferK = 0 := rfl
@[simp] theorem startTransfer_identValid : (startTransfer s).identValid = s.identValid := rfl
@[simp] theorem startTransfer_refused : (startTransfer s).refused = s.refused := rfl
@[simp] theorem startTransfer_params : (startTransfer s).params = s.params := rfl
@[simp] theorem startTransfer_trace : (startTransfer s).trace = s.trace := rfl
@[simp] theorem startTransfer_device : (startTransfer s).device = s.device := rfl
@[simp] theorem startTransfer_draws : (startTransfer s).draws = s.draws := rfl
@[simp] theorem startTransfer_delays : (startTransfer s).delays = s.delays := rfl
@[simp] theorem startTransfer_delayLeft : (startTransfer s).delayLeft = s.delayLeft := rfl
@[simp] theorem startTransfer_host : (startTransfer s).host = s.host := rfl
@[simp] theorem startTransfer_hostLog : (startTransfer s).hostLog = s.hostLog := rfl

/-! ### finish -/

@[simp] theorem finish_fsm : (finish s).fsm = .idle := rfl
@[simp] theorem finish_op : (finish s).op = .none := rfl
@[simp] theorem finish_psCtx : (finish s).psCtx = s.psCtx := rfl
@[simp] theorem finish_psCount : (finish s).psCount = s.psCount := rfl
@[simp] theorem finish_erCtx : (finish s).erCtx = s.erCtx := rfl
@[simp] theorem finish_erI : (finish s).erI = s.erI := rfl
@[simp] theorem finish_rawStatus : (finish s).rawStatus = s.rawStatus := rfl
@[simp] theorem finish_lastClass : (finish s).lastClass = s.lastClass := rfl
@[simp] theorem finish_classValid : (finish s).classValid = s.classValid := rfl
@[simp] theorem finish_errFlags : (finish s).errFlags = s.errFlags := rfl
@[simp] theorem finish_errValid : (finish s).errValid = s.errValid := rfl
@[simp] theorem finish_selDrive : (finish s).selDrive = s.selDrive := rfl
@[simp] theorem finish_budget : (finish s).budget = s.budget := rfl
@[simp] theorem finish_attempts : (finish s).attempts = s.attempts := rfl
@[simp] theorem finish_detectOk : (finish s).detectOk = s.detectOk := rfl
@[simp] theorem finish_detected : (finish s).detected = s.detected := rfl
@[simp] theorem finish_identW : (finish s).identW = s.identW := rfl
@[simp] theorem finish_xferK : (finish s).xferK = s.xferK := rfl
@[simp] theorem finish_identValid : (finish s).identValid = s.identValid := rfl
@[simp] theorem finish_refused : (finish s).refused = s.refused := rfl
@[simp] theorem finish_params : (finish s).params = s.params := rfl
@[simp] theorem finish_trace : (finish s).trace = s.trace := rfl
@[simp] theorem finish_device : (finish s).device = s.device := rfl
@[simp] theorem finish_draws : (finish s).draws = s.draws := rfl
@[simp] theorem finish_delays : (finish s).delays = s.delays := rfl
@[simp] theorem finish_delayLeft : (finish s).delayLeft = s.delayLeft := rfl
@[simp] theorem finish_host : (finish s).host = s.host := rfl
@[simp] theorem finish_hostLog : (finish s).hostLog = s.hostLog := rfl

/-! ### detectFails -/

@[simp] theorem detectFails_fsm : (detectFails s).fsm = .ddDone := rfl
@[simp] theorem detectFails_op : (detectFails s).op = s.op := rfl
@[simp] theorem detectFails_psCtx : (detectFails s).psCtx = s.psCtx := rfl
@[simp] theorem detectFails_psCount : (detectFails s).psCount = s.psCount := rfl
@[simp] theorem detectFails_erCtx : (detectFails s).erCtx = s.erCtx := rfl
@[simp] theorem detectFails_erI : (detectFails s).erI = s.erI := rfl
@[simp] theorem detectFails_rawStatus : (detectFails s).rawStatus = s.rawStatus := rfl
@[simp] theorem detectFails_lastClass : (detectFails s).lastClass = s.lastClass := rfl
@[simp] theorem detectFails_classValid : (detectFails s).classValid = s.classValid := rfl
@[simp] theorem detectFails_errFlags : (detectFails s).errFlags = s.errFlags := rfl
@[simp] theorem detectFails_errValid : (detectFails s).errValid = s.errValid := rfl
@[simp] theorem detectFails_selDrive : (detectFails s).selDrive = s.selDrive := rfl
@[simp] theorem detectFails_budget : (detectFails s).budget = s.budget := rfl
@[simp] theorem detectFails_attempts : (detectFails s).attempts = s.attempts := rfl
@[simp] theorem detectFails_detectOk : (detectFails s).detectOk = false := rfl
@[simp] theorem detectFails_detected : (detectFails s).detected = s.detected := rfl
@[simp] theorem detectFails_identW : (detectFails s).identW = s.identW := rfl
@[simp] theorem detectFails_xferK : (detectFails s).xferK = s.xferK := rfl
@[simp] theorem detectFails_identValid : (detectFails s).identValid = s.identValid := rfl
@[simp] theorem detectFails_refused : (detectFails s).refused = s.refused := rfl
@[simp] theorem detectFails_params : (detectFails s).params = s.params := rfl
@[simp] theorem detectFails_trace : (detectFails s).trace = s.trace := rfl
@[simp] theorem detectFails_device : (detectFails s).device = s.device := rfl
@[simp] theorem detectFails_draws : (detectFails s).draws = s.draws := rfl
@[simp] theorem detectFails_delays : (detectFails s).delays = s.delays := rfl
@[simp] theorem detectFails_delayLeft : (detectFails s).delayLeft = s.delayLeft := rfl
@[simp] theorem detectFails_host : (detectFails s).host = s.host := rfl
@[simp] theorem detectFails_hostLog : (detectFails s).hostLog = s.hostLog := rfl

/-! ### popHost -/

@[simp] theorem popHost_fsm : (popHost s).fsm = s.fsm := rfl
@[simp] theorem popHost_op : (popHost s).op = s.op := rfl
@[simp] theorem popHost_psCtx : (popHost s).psCtx = s.psCtx := rfl
@[simp] theorem popHost_psCount : (popHost s).psCount = s.psCount := rfl
@[simp] theorem popHost_erCtx : (popHost s).erCtx = s.erCtx := rfl
@[simp] theorem popHost_erI : (popHost s).erI = s.erI := rfl
@[simp] theorem popHost_rawStatus : (popHost s).rawStatus = s.rawStatus := rfl
@[simp] theorem popHost_lastClass : (popHost s).lastClass = s.lastClass := rfl
@[simp] theorem popHost_classValid : (popHost s).classValid = s.classValid := rfl
@[simp] theorem popHost_errFlags : (popHost s).errFlags = s.errFlags := rfl
@[simp] theorem popHost_errValid : (popHost s).errValid = s.errValid := rfl
@[simp] theorem popHost_selDrive : (popHost s).selDrive = s.selDrive := rfl
@[simp] theorem popHost_budget : (popHost s).budget = s.budget := rfl
@[simp] theorem popHost_attempts : (popHost s).attempts = s.attempts := rfl
@[simp] theorem popHost_detectOk : (popHost s).detectOk = s.detectOk := rfl
@[simp] theorem popHost_detected : (popHost s).detected = s.detected := rfl
@[simp] theorem popHost_identW : (popHost s).identW = s.identW := rfl
@[simp] theorem popHost_xferK : (popHost s).xferK = s.xferK := rfl
@[simp] theorem popHost_identValid : (popHost s).identValid = s.identValid := rfl
@[simp] theorem popHost_refused : (popHost s).refused = s.refused := rfl
@[simp] theorem popHost_params : (popHost s).params = s.params := rfl
@[simp] theorem popHost_trace : (popHost s).trace = s.trace := rfl
@[simp] theorem popHost_device : (popHost s).device = s.device := rfl
@[simp] theorem popHost_draws : (popHost s).draws = s.draws := rfl
@[simp] theorem popHost_delays : (popHost s).delays = s.delays := rfl
@[simp] theorem popHost_delayLeft : (popHost s).delayLeft = s.delayLeft := rfl
@[simp] theorem popHost_host : (popHost s).host = s.host.tail := rfl
@[simp] theorem popHost_hostLog : (popHost s).hostLog = s.hostLog := rfl

/-! ### assertReset -/

@[simp] theorem assertReset_fsm : (assertReset s).fsm = State.reset.fsm := rfl
@[simp] theorem assertReset_op : (assertReset s).op = State.reset.op := rfl
@[simp] theorem assertReset_psCtx : (assertReset s).psCtx = State.reset.psCtx := rfl
@[simp] theorem assertReset_psCount : (assertReset s).psCount = State.reset.psCount := rfl
@[simp] theorem assertReset_erCtx : (assertReset s).erCtx = State.reset.erCtx := rfl
@[simp] theorem assertReset_erI : (assertReset s).erI = State.reset.erI := rfl
@[simp] theorem assertReset_rawStatus : (assertReset s).rawStatus = State.reset.rawStatus := rfl
@[simp] theorem assertReset_lastClass : (assertReset s).lastClass = State.reset.lastClass := rfl
@[simp] theorem assertReset_classValid : (assertReset s).classValid = State.reset.classValid := rfl
@[simp] theorem assertReset_errFlags : (assertReset s).errFlags = State.reset.errFlags := rfl
@[simp] theorem assertReset_errValid : (assertReset s).errValid = State.reset.errValid := rfl
@[simp] theorem assertReset_selDrive : (assertReset s).selDrive = State.reset.selDrive := rfl
@[simp] theorem assertReset_budget : (assertReset s).budget = State.reset.budget := rfl
@[simp] theorem assertReset_attempts : (assertReset s).attempts = State.reset.attempts := rfl
@[simp] theorem assertReset_detectOk : (assertReset s).detectOk = State.reset.detectOk := rfl
@[simp] theorem assertReset_detected : (assertReset s).detected = State.reset.detected := rfl
@[simp] theorem assertReset_identW : (assertReset s).identW = State.reset.identW := rfl
@[simp] theorem assertReset_xferK : (assertReset s).xferK = State.reset.xferK := rfl
@[simp] theorem assertReset_identValid : (assertReset s).identValid = State.reset.identValid := rfl
@[simp] theorem assertReset_refused : (assertReset s).refused = s.refused := rfl
@[simp] theorem assertReset_params : (assertReset s).params = s.params := rfl
@[simp] theorem assertReset_trace : (assertReset s).trace = s.trace := rfl
@[simp] theorem assertReset_device : (assertReset s).device = s.device := rfl
@[simp] theorem assertReset_draws : (assertReset s).draws = s.draws := rfl
@[simp] theorem assertReset_delays : (assertReset s).delays = s.delays := rfl
@[simp] theorem assertReset_delayLeft : (assertReset s).delayLeft = State.reset.delayLeft := rfl
@[simp] theorem assertReset_host : (assertReset s).host = s.host := rfl
@[simp] theorem assertReset_hostLog : (assertReset s).hostLog = s.hostLog := rfl

end Sys2Proof.Machine
end

