-- ==== Sys2Proof/Laws/Ops.lean ====
section
/-! SUPPORT. For each shared operation, and for a step, one lemma that says everything it can do. -/

namespace Sys2Proof.Machine

open Host.Outcome

/-! ### The trace -/

/-- A trace is never itself with one event more. -/
theorem trace_ne_cons (e : Event) (tr : List Event) : tr ≠ e :: tr := fun h => by
  have := congrArg List.length h
  simp at this

/-! ### Reads -/

theorem answer_cons {r : DevReg} {s : State} {v : Word} {vs : List Word} (h : s.draws = v :: vs) : answer r s = v := by
  simp [answer, h]

theorem answer_nil {r : DevReg} {s : State} (h : s.draws = []) : answer r s = Config.deviceAnswer s.trace r := by
  simp [answer, h]

/-- `answer` looks at the coming answers and the trace only. -/
theorem answer_congr {r : DevReg} {s t : State} (hd : s.draws = t.draws) (ht : s.trace = t.trace) :
    answer r s = answer r t := by
  simp [answer, hd, ht]

theorem readValue_eq_zext16 {r : DevReg} (s : State) (h : r ≠ .data) : readValue r s = zext16 (readByte r s) := by
  cases r <;> first | contradiction | rfl

theorem readValue_data (s : State) : readValue .data s = answer .data s := rfl

/-! Taking the host's action changes nothing a read, the delay agent or the host map looks at. -/

@[simp] theorem answer_popHost (r : DevReg) (s : State) : answer r (popHost s) = answer r s := rfl
@[simp] theorem readByte_popHost (r : DevReg) (s : State) : readByte r (popHost s) = readByte r s := rfl
@[simp] theorem readValue_popHost (r : DevReg) (s : State) : readValue r (popHost s) = readValue r s := rfl
@[simp] theorem delayAnswer_popHost (s : State) : delayAnswer (popHost s) = delayAnswer s := rfl
@[simp] theorem hostReg_popHost (a : Nat) (s : State) : hostReg a (popHost s) = hostReg a s := rfl
@[simp] theorem active_popHost (s : State) : (popHost s).active = s.active := rfl

theorem lo8_zext16 (b : Byte) : lo8 (zext16 b) = b := by
  apply BitVec.eq_of_toNat_eq
  simp [lo8, zext16]
  omega

theorem zext16_injective {a b : Byte} (h : zext16 a = zext16 b) : a = b := by
  rw [← lo8_zext16 a, h, lo8_zext16]

/-! ### Acceptance and refusal -/

theorem active_eq_false {s : State} : s.active = false ↔ s.fsm = .idle := by simp [State.active]

theorem active_eq_true {s : State} : s.active = true ↔ s.fsm ≠ .idle := by simp [State.active]

theorem accept_of_idle {f : State → State} {s : State} (h : s.fsm = .idle) : accept f s = f s := by
  simp [accept, State.active, h]

theorem accept_of_active {f : State → State} {s : State} (h : s.fsm ≠ .idle) :
    accept f s = refuse .commandWhileActive s := by
  simp [accept, State.active, h]

/-- What an acceptance can do. -/
theorem accept_cases (f : State → State) (s : State) :
    (s.fsm = .idle ∧ accept f s = f s) ∨ (s.fsm ≠ .idle ∧ accept f s = refuse .commandWhileActive s) := by
  by_cases h : s.fsm = .idle
  · exact .inl ⟨h, accept_of_idle h⟩
  · exact .inr ⟨h, accept_of_active h⟩

/-! ### Instructions -/

/-- Every instruction answers a next state. -/
theorem exec_next (i : Instr) (s : State) : ∃ t, exec i s = .next t := by
  cases i <;> exact ⟨_, rfl⟩

/-- What a host command can do: be refused while the block is active; in `IDLE`, be accepted or be refused for its
precondition. -/
theorem exec_cases {i : Instr} {s t : State} (hi : i ≠ .ataIdentifyDevice) (h : exec i s = .next t) :
    (s.fsm ≠ .idle ∧ t = refuse .commandWhileActive s) ∨
    (s.fsm = .idle ∧
      ((i = .pollStatus ∧ t = startPoll .host { s with op := .pollStatus }) ∨
       (i = .reportError ∧ s.classValid = true ∧ s.lastClass = .error ∧
          t = startErrorReport .host { s with op := .reportError }) ∨
       (i = .reportError ∧ ¬(s.classValid = true ∧ s.lastClass = .error) ∧ t = refuse .reportErrorWithoutError s) ∨
       (∃ driveIndex, i = .detectDrive driveIndex ∧
          t = { s with
            op := .detectDrive, selDrive := driveOf driveIndex, budget := budgetOf (driveOf driveIndex), attempts := 0,
            detectOk := false, detected := false, identValid := false, fsm := .ddSelect }) ∨
       (i = .identifyDevice ∧ s.detected = true ∧
          t = startPoll .idPre { s with op := .identifyDevice, identValid := false, errValid := false, xferK := 0 }) ∨
       (i = .identifyDevice ∧ s.detected = false ∧ t = refuse .identifyWithoutDetect s))) := by
  by_cases hf : s.fsm = .idle
  · refine .inr ⟨hf, ?_⟩
    cases i with
    | ataIdentifyDevice => exact absurd rfl hi
    | pollStatus =>
      simp only [exec, execPollStatus, accept_of_idle hf] at h
      cases h
      simp
    | reportError =>
      simp only [exec, execReportError, accept_of_idle hf] at h
      cases h
      split_ifs <;> simp_all
    | detectDrive driveIndex =>
      simp only [exec, execDetectDrive, accept_of_idle hf] at h
      cases h
      simp
    | identifyDevice =>
      simp only [exec, execIdentifyDevice, accept_of_idle hf] at h
      cases h
      split_ifs <;> simp_all
  · refine .inl ⟨hf, ?_⟩
    cases i with
    | ataIdentifyDevice => exact absurd rfl hi
    | _ =>
      simp only [exec, execPollStatus, execReportError, execDetectDrive, execIdentifyDevice, accept_of_active hf] at h
      cases h
      rfl

/-- A host word never decodes to the device command. -/
theorem decodeHost_ne_ata (w : Word) : decodeHost w ≠ .ok .ataIdentifyDevice := by
  unfold decodeHost withoutArg
  split_ifs <;> simp

theorem hostCommand_ok {w : Word} {i : Instr} (h : decodeHost w = .ok i) (s : State) : hostCommand w s = exec i s := by
  simp [hostCommand, decode, h]

theorem hostCommand_error {w : Word} {e : Illegal} (h : decodeHost w = .error e) (s : State) :
    hostCommand w s = .next (accept (refuse .illegalCommand) s) := by
  simp [hostCommand, decode, h]

/-- What a write to CMD can do: run a legal word's instruction, or refuse. -/
theorem hostCommand_cases (w : Word) (s : State) :
    (∃ i, decodeHost w = .ok i ∧ hostCommand w s = exec i s) ∨
      (∃ e, decodeHost w = .error e ∧ hostCommand w s = .next (accept (refuse .illegalCommand) s)) := by
  cases h : decodeHost w with
  | ok i => exact .inl ⟨i, rfl, hostCommand_ok h s⟩
  | error e => exact .inr ⟨e, rfl, hostCommand_error h s⟩

/-! ### The block's own steps -/

section
variable {s : State}

theorem blockStep_idle (h : s.fsm = .idle) : blockStep s = .next s := by simp [blockStep, h]
theorem blockStep_psRead (h : s.fsm = .psRead) : blockStep s = .next (stepPsRead s) := by simp [blockStep, h]
theorem blockStep_psSettle (h : s.fsm = .psSettle) : blockStep s = .next (stepPsSettle s) := by simp [blockStep, h]
theorem blockStep_psAuth (h : s.fsm = .psAuth) : blockStep s = .next (stepPsAuth s) := by simp [blockStep, h]
theorem blockStep_psDone (h : s.fsm = .psDone) : blockStep s = .next (stepPsDone s) := by simp [blockStep, h]
theorem blockStep_erRead (h : s.fsm = .erRead) : blockStep s = .next (stepErRead s) := by simp [blockStep, h]
theorem blockStep_erEmit (h : s.fsm = .erEmit) : blockStep s = stepErEmit s := by simp [blockStep, h]
theorem blockStep_erDone (h : s.fsm = .erDone) : blockStep s = .next (stepErDone s) := by simp [blockStep, h]
theorem blockStep_ddSelect (h : s.fsm = .ddSelect) : blockStep s = .next (stepDdSelect s) := by simp [blockStep, h]
theorem blockStep_ddEval (h : s.fsm = .ddEval) : blockStep s = .next (stepDdEval s) := by simp [blockStep, h]
theorem blockStep_ddBackoff (h : s.fsm = .ddBackoff) : blockStep s = .next (stepDdBackoff s) := by simp [blockStep, h]
theorem blockStep_ddWait (h : s.fsm = .ddWait) : blockStep s = .next (stepDdWait s) := by simp [blockStep, h]
theorem blockStep_ddRbW1 (h : s.fsm = .ddRbW1) : blockStep s = .next (stepDdRbW1 s) := by simp [blockStep, h]
theorem blockStep_ddRbR1 (h : s.fsm = .ddRbR1) : blockStep s = .next (stepDdRbR1 s) := by simp [blockStep, h]
theorem blockStep_ddRbW2 (h : s.fsm = .ddRbW2) : blockStep s = .next (stepDdRbW2 s) := by simp [blockStep, h]
theorem blockStep_ddRbR2 (h : s.fsm = .ddRbR2) : blockStep s = .next (stepDdRbR2 s) := by simp [blockStep, h]
theorem blockStep_ddDone (h : s.fsm = .ddDone) : blockStep s = .next (stepDdDone s) := by simp [blockStep, h]
theorem blockStep_idPreLog (h : s.fsm = .idPreLog) : blockStep s = .next (stepIdPreLog s) := by simp [blockStep, h]
theorem blockStep_idCmd (h : s.fsm = .idCmd) : blockStep s = exec .ataIdentifyDevice s := by simp [blockStep, h]
theorem blockStep_idPostLog (h : s.fsm = .idPostLog) : blockStep s = .next (stepIdPostLog s) := by simp [blockStep, h]
theorem blockStep_idXfer (h : s.fsm = .idXfer) : blockStep s = stepIdXfer s := by simp [blockStep, h]
theorem blockStep_idFields (h : s.fsm = .idFields) : blockStep s = .next (stepIdFields s) := by simp [blockStep, h]
theorem blockStep_idDump (h : s.fsm = .idDump) : blockStep s = .next (stepIdDump s) := by simp [blockStep, h]
theorem blockStep_idDone (h : s.fsm = .idDone) : blockStep s = .next (stepIdDone s) := by simp [blockStep, h]
end

/-- What `ER_EMIT` can do: the one event of an empty error byte, one flag, or a fault where no bit is left. -/
theorem stepErEmit_cases (s : State) :
    (s.errFlags = 0#8 ∧ stepErEmit s = .next (goto .erDone (emit .errorNoFlags s))) ∨
      (∃ j, s.errFlags ≠ 0#8 ∧ nextErrorBit s.errFlags s.erI = some j ∧ stepErEmit s = .next (emitFlag j s)) ∨
      (s.errFlags ≠ 0#8 ∧ nextErrorBit s.errFlags s.erI = none ∧ stepErEmit s = .fault .noErrorBitLeft) := by
  unfold stepErEmit
  by_cases h : s.errFlags = 0#8
  · exact .inl ⟨h, by simp [h]⟩
  · cases hn : nextErrorBit s.errFlags s.erI with
    | none => exact .inr (.inr ⟨h, rfl, by simp [h]⟩)
    | some j => exact .inr (.inl ⟨j, h, rfl, by simp [h]⟩)

/-- What `ID_XFER` can do: store a word that is not the last, store the last, or fault past the end. -/
theorem stepIdXfer_cases (s : State) :
    (s.xferK + 1 < 256 ∧ stepIdXfer s = .next (goto .idXfer (storeWord s))) ∨
      (s.xferK + 1 = 256 ∧ stepIdXfer s = .next (transferDone (storeWord s))) ∨
      (256 ≤ s.xferK ∧ stepIdXfer s = .fault .identIndexOutOfRange) := by
  unfold stepIdXfer identWords
  by_cases h1 : s.xferK + 1 < 256
  · exact .inl ⟨h1, by simp [h1, show s.xferK < 256 by omega]⟩
  · by_cases h2 : s.xferK < 256
    · exact .inr (.inl ⟨by omega, by simp [h1, h2]⟩)
    · exact .inr (.inr ⟨by omega, by simp [h2]⟩)

/-! ### Turns and steps -/

section
variable {s : State} {rest : List HostAction}

theorem step_nil (h : s.host = []) : step s = blockStep s := by simp [step, turn, h]

theorem step_write {a : Nat} {v : Word} (h : s.host = .write a v :: rest) :
    step s = hostWrite a v (popHost s) := by simp [step, turn, h]

theorem step_read {a : Nat} (h : s.host = .read a :: rest) :
    step s = .next (hostRead a (popHost s)) := by simp [step, turn, h]

theorem step_waitIdle (h : s.host = .waitIdle :: rest) :
    step s = if s.active then blockStep s else .next (popHost s) := by simp [step, turn, h]

theorem step_pass (h : s.host = .pass :: rest) : step s = blockStep (popHost s) := by simp [step, turn, h]

theorem step_reset (h : s.host = .reset :: rest) : step s = .next (assertReset (popHost s)) := by
  simp [step, turn, h]
end

/-- What a host read can do. -/
theorem hostRead_cases (a : Nat) (s : State) :
    (∃ v, hostReg a s = some v ∧ hostRead a s = { s with hostLog := (a, v) :: s.hostLog }) ∨
      (hostReg a s = none ∧ hostRead a s = refuse .hostReadUnmapped s) := by
  unfold hostRead
  cases h : hostReg a s with
  | none => exact .inr ⟨rfl, rfl⟩
  | some v => exact .inl ⟨v, rfl, rfl⟩

/-- What a step can do, when it gives a next state: a step of the block on the state or on the state without its next host
action, an instruction a host write runs, a refusal, a host read, the end of a wait, or a reset. -/
theorem step_cases {s t : State} (h : step s = .next t) :
    (∃ u, (u = s ∨ u = popHost s) ∧ blockStep u = .next t) ∨
      (∃ w i rest, s.host = .write 0 w :: rest ∧ decodeHost w = .ok i ∧ exec i (popHost s) = .next t) ∨
      (∃ r, t = refuse r (popHost s)) ∨
      (∃ a v, t = { popHost s with hostLog := (a, v) :: s.hostLog }) ∨
      t = popHost s ∨ t = assertReset (popHost s) := by
  cases hh : s.host with
  | nil => exact .inl ⟨s, .inl rfl, by rwa [step_nil hh] at h⟩
  | cons a rest =>
    cases a with
    | write a v =>
      rw [step_write hh, hostWrite] at h
      split at h
      · rename_i ha
        obtain ⟨i, hi, he⟩ | ⟨e, -, he⟩ := hostCommand_cases v (popHost s)
        · exact .inr (.inl ⟨v, i, rest, by rw [ha], hi, he ▸ h⟩)
        · rw [he] at h
          obtain ⟨-, ha⟩ | ⟨-, ha⟩ := accept_cases (refuse .illegalCommand) (popHost s)
          all_goals
            rw [ha] at h
            cases h
            exact .inr (.inr (.inl ⟨_, rfl⟩))
      · cases h
        exact .inr (.inr (.inl ⟨_, rfl⟩))
    | read a =>
      rw [step_read hh] at h
      cases h
      obtain ⟨v, -, hr⟩ | ⟨-, hr⟩ := hostRead_cases a (popHost s)
      · exact .inr (.inr (.inr (.inl ⟨a, v, hr⟩)))
      · exact .inr (.inr (.inl ⟨_, hr⟩))
    | waitIdle =>
      rw [step_waitIdle hh] at h
      split at h
      · exact .inl ⟨s, .inl rfl, h⟩
      · cases h
        exact .inr (.inr (.inr (.inr (.inl rfl))))
    | pass => exact .inl ⟨_, .inr rfl, by rwa [step_pass hh] at h⟩
    | reset =>
      rw [step_reset hh] at h
      cases h
      exact .inr (.inr (.inr (.inr (.inr rfl))))

/-! ### Commands among the host's actions -/

@[simp] theorem isCommand_write (a : Nat) (v : Word) : (HostAction.write a v).isCommand = decide (a = 0x000) := rfl
@[simp] theorem isCommand_read (a : Nat) : (HostAction.read a).isCommand = false := rfl
@[simp] theorem isCommand_waitIdle : HostAction.waitIdle.isCommand = false := rfl
@[simp] theorem isCommand_pass : HostAction.pass.isCommand = false := rfl
@[simp] theorem isCommand_reset : HostAction.reset.isCommand = false := rfl

/-! ### Runs -/

@[simp] theorem steps_zero (s : State) : steps 0 s = .next s := rfl

theorem steps_succ {s t : State} (h : step s = .next t) (k : Nat) : steps (k + 1) s = steps k t := by
  simp [steps, h]

theorem steps_add {s t : State} {j : Nat} (h : steps j s = .next t) (k : Nat) : steps (j + k) s = steps k t := by
  induction j generalizing s with
  | zero => cases h; simp
  | succ j ih =>
    rw [show j + 1 + k = (j + k) + 1 by omega]
    simp only [steps] at h ⊢
    cases hs : step s with
    | next u => simp only [hs] at h; simpa using ih h
    | fault r => simp [hs] at h
    | refused r => simp [hs] at h

/-- `steps` is the host's run of the core. -/
theorem steps_eq_run (k : Nat) (s : State) : steps k s = Host.Core.run Sys2Proof.core k s := by
  induction k generalizing s with
  | zero => rfl
  | succ k ih =>
    have hc : Sys2Proof.core.step s = step s := rfl
    simp only [steps, Host.Core.run, hc]
    cases step s with
    | next t => exact ih t
    | fault r => rfl
    | refused r => rfl

end Sys2Proof.Machine
end

