-- ==== Sys2Proof/Laws/HostMap.lean ====
section
/-! SUPPORT. The bits of a host register's fields, the words and bytes of the identify buffer, and the widths of the device
registers. -/

namespace Sys2Proof.Machine

/-! ### Fields of a host register -/

theorem field_getLsbD {w : Nat} {lo i : Nat} (v : BitVec w) (hi : i < 16) :
    (field lo v).getLsbD i = (decide (lo ≤ i) && v.getLsbD (i - lo)) := by
  simp only [field, BitVec.getLsbD_shiftLeft, BitVec.getLsbD_setWidth]
  grind

theorem field_getElem {w : Nat} {lo i : Nat} (v : BitVec w) (hi : i < 16) :
    (field lo v)[i] = (decide (lo ≤ i) && v.getLsbD (i - lo)) := by
  rw [← BitVec.getLsbD_eq_getElem, field_getLsbD v hi]

theorem flag_getLsbD {lo i : Nat} (b : Bool) (hi : i < 16) : (flag lo b).getLsbD i = (decide (i = lo) && b) := by
  have h : ∀ k, (BitVec.ofBool b).getLsbD k = (decide (k = 0) && b) := by
    intro k
    cases b <;> cases k <;> simp
  rw [flag, field_getLsbD _ hi, h]
  grind

theorem flag_getElem {lo i : Nat} (b : Bool) (hi : i < 16) : (flag lo b)[i] = (decide (i = lo) && b) := by
  rw [← BitVec.getLsbD_eq_getElem, flag_getLsbD b hi]

@[simp] theorem gate_true {w : Nat} (v : BitVec w) : gate true v = v := rfl
@[simp] theorem gate_false {w : Nat} (v : BitVec w) : gate false v = 0#w := rfl

/-! ### The identify buffer -/

/-- A word read after a write to the same place is the word written. -/
theorem wordAt_set_same (w : Vector Word 256) {k : Nat} (v : Word) (hk : k < 256) :
    wordAt (w.setIfInBounds k v) k = v := by
  simp [wordAt, hk]

/-- A write leaves every other word alone. -/
theorem wordAt_set_other (w : Vector Word 256) {k j : Nat} (v : Word) (h : j ≠ k) :
    wordAt (w.setIfInBounds k v) j = wordAt w j := by
  rw [wordAt, wordAt, Vector.getElem?_setIfInBounds_ne (Ne.symm h)]

/-- A write of word `k` leaves every byte but `2k` and `2k+1` alone. -/
theorem byteAt_set_other (w : Vector Word 256) {k a : Nat} (v : Word) (h : a / 2 ≠ k) :
    byteAt (w.setIfInBounds k v) a = byteAt w a := by
  simp [byteAt, wordAt_set_other w v h]

theorem wordAt_replicate (k : Nat) : wordAt (Vector.replicate 256 0#16) k = 0#16 := by
  simp only [wordAt, Vector.getElem?_replicate]
  split <;> rfl

/-! ### Widths -/

@[simp] theorem bytes_data : DevReg.data.bytes = 2 := rfl
@[simp] theorem bytes_errorFeatures : DevReg.errorFeatures.bytes = 1 := rfl
@[simp] theorem bytes_cylLow : DevReg.cylLow.bytes = 1 := rfl
@[simp] theorem bytes_driveHead : DevReg.driveHead.bytes = 1 := rfl
@[simp] theorem bytes_statusCommand : DevReg.statusCommand.bytes = 1 := rfl

end Sys2Proof.Machine
end

