-- ==== Sys2Proof/Laws/PerInstr.lean ====
section
/-! SUPPORT. Statements made for every instruction: its encoding is the one of its row in the opcode table. -/

namespace Sys2Proof.Laws.TableMatch

open Sys2Proof

/-- The rows of spec/opcode_table.json, in its order: mnemonic, bits, mask, match. -/
def rows : List (String × Nat × Nat × Nat) :=
  [("POLL_STATUS", 16, 0xFFFF, 0x0001),
   ("REPORT_ERROR", 16, 0xFFFF, 0x0002),
   ("DETECT_DRIVE", 16, 0x00FF, 0x0003),
   ("IDENTIFY_DEVICE", 16, 0xFFFF, 0x0004),
   ("ATA_IDENTIFY_DEVICE", 8, 0xFF, 0xEC)]

/-- The bits of a code, as a number. -/
def codeBits : Code → Nat
  | .host cmd => cmd.toNat
  | .device code => code.toNat

/-- The instruction's encoding has the width of its row and the row's fixed bits, and decodes to the instruction. -/
def Statement (i : Instr) : Prop :=
  ∃ nbits mask pattern, (i.mnemonic, nbits, mask, pattern) ∈ rows ∧
    tableCode nbits (codeBits (encode i)) = some (encode i) ∧
    codeBits (encode i) &&& mask = pattern ∧
    decodeTableWord nbits (codeBits (encode i)) = some i

theorem pollStatus : Statement .pollStatus := ⟨16, 0xFFFF, 0x0001, by decide⟩

theorem reportError : Statement .reportError := ⟨16, 0xFFFF, 0x0002, by decide⟩

theorem detectDrive (driveIndex : Byte) : Statement (.detectDrive driveIndex) :=
  ⟨16, 0x00FF, 0x0003, by simp [rows, Instr.mnemonic], by revert driveIndex; decide⟩

theorem identifyDevice : Statement .identifyDevice := ⟨16, 0xFFFF, 0x0004, by decide⟩

theorem ataIdentifyDevice : Statement .ataIdentifyDevice := ⟨8, 0xFF, 0xEC, by decide⟩

end Sys2Proof.Laws.TableMatch
end

