-- ==== Sys2Proof/Tests/Slice0.lean ====
section
/-! SUPPORT. Tests. The expected values are the spec's own: the words of rules R70 to R73, R83 and R87, and the vectors of
spec/95_test_vectors.md. The witnesses at the end meet the hypotheses of the statements, clause by clause. -/

namespace Sys2Proof.Tests

open Sys2Proof Sys2Proof.Machine

/-- A machine with every open parameter given, in `IDLE`, at reset. -/
def machine : State := { State.reset with params := ⟨15, 1000, false, 7, 6, 0, 1⟩ }

/-- The machine in a sequencing state. -/
def inFsm (f : Fsm) : State := { machine with fsm := f }

/-- The machine with host actions to come. -/
def withHost (l : List HostAction) (s : State) : State := { s with host := l }

/-- A test on the next state of a step; false of a fault and of a refusal. -/
def nextHolds (r : Result) (p : State → Bool) : Bool :=
  match r with
  | .next t => p t
  | _ => false

/-- An identify buffer that is 0 but for the listed words. -/
def bufferOf (l : List (Nat × Word)) : Vector Word 256 :=
  l.foldl (fun w kv => w.setIfInBounds kv.1 kv.2) (Vector.replicate 256 0#16)

/-! ### Decoding (rules R70 to R73, R83, R87; table of spec/95 section 2.5) -/

theorem test_decode_poll_status : decode (.host 0b00000000_0000_0001#16) = .ok .pollStatus := rfl
theorem test_decode_report_error : decode (.host 0b00000000_0000_0010#16) = .ok .reportError := rfl
theorem test_decode_detect_drive_0 : decode (.host 0b00000000_0000_0011#16) = .ok (.detectDrive 0x00#8) := rfl
theorem test_decode_detect_drive_1 : decode (.host 0b00000001_0000_0011#16) = .ok (.detectDrive 0x01#8) := rfl
theorem test_decode_detect_drive_0xFE : decode (.host 0b11111110_0000_0011#16) = .ok (.detectDrive 0xFE#8) := rfl
theorem test_decode_identify_device : decode (.host 0b00000000_0000_0100#16) = .ok .identifyDevice := rfl
theorem test_decode_ata_identify_device : decode (.device 0b11101100#8) = .ok .ataIdentifyDevice := rfl

theorem test_decode_illegal :
    decode (.host 0x0000#16) = .error .opUnassigned ∧ decode (.host 0x0005#16) = .error .opUnassigned ∧
    decode (.host 0x000F#16) = .error .opUnassigned ∧ decode (.host 0x0011#16) = .error .reservedNotZero ∧
    decode (.host 0x00F3#16) = .error .reservedNotZero ∧ decode (.host 0x0101#16) = .error .argNotZero ∧
    decode (.host 0x0102#16) = .error .argNotZero ∧ decode (.host 0x0104#16) = .error .argNotZero ∧
    decode (.device 0x20#8) = .error .ataNotIssued := ⟨rfl, rfl, rfl, rfl, rfl, rfl, rfl, rfl, rfl⟩

/-- The masking of rule R72: operands 2 and 0xFE use drive 0, 0xFF uses drive 1. -/
theorem test_drive_index :
    driveOf 0x02#8 = 0#1 ∧ driveOf 0xFE#8 = 0#1 ∧ driveOf 0x01#8 = 1#1 ∧ driveOf 0xFF#8 = 1#1 := by decide

/-! ### Well-formedness: one ill-formed term for each check (rule R7) -/

theorem test_wf_params : (⟨15, 1000, true, 0, 15, 0, 0⟩ : Params).wf = true := by decide
theorem test_wf_refuses_14_discards : (⟨14, 1000, true, 0, 15, 0, 0⟩ : Params).wf = false := by decide
theorem test_wf_refuses_short_settle : (⟨15, 999, true, 0, 15, 0, 0⟩ : Params).wf = false := by decide

/-! ### Placed words, from reset (log entry 2) -/

theorem test_placed_poll_status :
    step (State.reset.withFetchWord 16 0x0001) = .next { State.reset with op := .pollStatus, fsm := .psRead } := rfl

/-- After reset REPORT_ERROR is refused and CSR reads 0x0002 (spec/95 section 2.2). -/
theorem test_placed_report_error :
    nextHolds (step (State.reset.withFetchWord 16 0x0002)) (fun t => decide (csr t = 0x0002#16 ∧ t.fsm = .idle)) = true := rfl

theorem test_placed_detect_drive :
    step (State.reset.withFetchWord 16 0xFF03) =
      .next { State.reset with op := .detectDrive, selDrive := 1#1, budget := 1, fsm := .ddSelect } := rfl

/-- After reset IDENTIFY_DEVICE is refused and CSR reads 0x0002 (spec/95 section 2.4). -/
theorem test_placed_identify_device :
    nextHolds (step (State.reset.withFetchWord 16 0x0004)) (fun t => decide (csr t = 0x0002#16 ∧ t.fsm = .idle)) = true := rfl

theorem test_placed_ata_identify_device :
    nextHolds (step (State.reset.withFetchWord 8 0xEC))
      (fun t => decide (t.trace = [.memWrite .statusCommand 1 0x00EC#16] ∧ t.fsm = .psRead ∧ t.psCtx = .idPost)) = true :=
  rfl

/-! ### Instructions, one step each -/

/-- REPORT_ERROR after a poll of 0x51 is accepted (spec/95 section 2.2). -/
theorem test_report_error_accepted :
    nextHolds (exec .reportError { machine with rawStatus := 0x51#8, lastClass := .error, classValid := true })
      (fun t => decide (t.fsm = .erRead ∧ t.op = .reportError ∧ t.refused = false)) = true := by decide

/-- IDENTIFY_DEVICE on a detected drive is accepted and clears `err_valid` (rule R231). -/
theorem test_identify_accepted :
    nextHolds (exec .identifyDevice { machine with detected := true, detectOk := true, errValid := true })
      (fun t => decide (t.fsm = .psRead ∧ t.psCtx = .idPre ∧ t.errValid = false ∧ t.detected = true)) = true := by decide

/-- A command during a DETECT_DRIVE is refused, an illegal one for the same reason (spec/95 section 2.5). -/
theorem test_command_while_active :
    nextHolds (step (withHost [.write 0x000 0x0000#16] (inFsm .ddWait)))
      (fun t => decide (t.trace = [.refused .commandWhileActive] ∧ t.fsm = .ddWait)) = true := by decide

/-- The select byte of drive 1 (spec/95 L2.D10). -/
theorem test_select_write :
    nextHolds (blockStep { inFsm .ddSelect with selDrive := 1#1 })
      (fun t => decide (t.trace = [.memWrite .driveHead 1 0x00B0#16] ∧ t.device.driveHead = 0xB0#8 ∧ t.attempts = 1)) =
      true := by decide

/-- The read-back mismatch of spec/95 L2.D2: 0xFF for 0x12 ends the test. -/
theorem test_readback_mismatch :
    nextHolds (blockStep { inFsm .ddRbR1 with draws := [0x00FF#16] })
      (fun t => decide (t.fsm = .ddDone ∧ t.detectOk = false)) = true := by decide

/-- A data read keeps the word bit for bit (rule R55). -/
theorem test_xfer_word :
    nextHolds (blockStep { inFsm .idXfer with draws := [0x4241#16], xferK := 27 })
      (fun t => decide (wordAt t.identW 27 = 0x4241#16 ∧ t.xferK = 28 ∧ t.trace = [.memRead .data 2 0x4241#16])) = true := by
  decide +kernel

/-! ### Classification and error bits (spec/95 sections 2.1 and 2.2) -/

theorem test_classify_sixteen :
    [0xE1#8, 0xE0#8, 0xC1#8, 0xC0#8, 0xA1#8, 0xA0#8, 0x81#8, 0x80#8].map classify =
      [.notPresent, .notPresent, .notPresent, .notPresent, .busy, .busy, .busy, .busy] ∧
    [0x61#8, 0x60#8, 0x41#8, 0x40#8, 0x21#8, 0x20#8, 0x01#8, 0x00#8].map classify =
      [.error, .fault, .error, .ready, .notReady, .notReady, .notReady, .notReady] := by decide

theorem test_decode_error :
    decodeError 0x84#8 = [.aborted, .badBlock] ∧ decodeError 0x0A#8 = [.track0NotFound, .mediaChangeRequest] ∧
    decodeError 0x41#8 = [.noAddressMark, .uncorrectableData] := by decide

/-! ### Field views, strings and the host registers (spec/95 sections 2.4 and 3) -/

theorem test_lba28 :
    lba28Total (bufferOf [(60, 0x5678#16), (61, 0x1234#16)]) = 0x12345678#32 ∧
    lba28Total (bufferOf [(60, 0xFFFF#16), (61, 0xFFFF#16)]) = 0xFFFFFFFF#32 := by decide +kernel

/-- "ABCDEF" at the model offset, and a 0x00 byte that ends the displayed string early. -/
theorem test_model :
    display (model (bufferOf [(27, 0x4241#16), (28, 0x4443#16), (29, 0x4645#16)])) =
      [0x41#8, 0x42#8, 0x43#8, 0x44#8, 0x45#8, 0x46#8] ∧
    display (model (bufferOf [(27, 0x4241#16), (28, 0x4300#16)])) = [0x41#8, 0x42#8] := by decide +kernel

theorem test_firmware :
    firmware (bufferOf [(23, 0x2E31#16), (24, 0x2030#16), (25, 0x2020#16), (26, 0x2020#16)]) =
      [0x31#8, 0x2E#8, 0x30#8, 0x20#8, 0x20#8, 0x20#8, 0x20#8, 0x20#8, 0x00#8] := by decide +kernel

theorem test_byte_view :
    byteAt (bufferOf [(27, 0x4241#16)]) 54 = 0x41#8 ∧ byteAt (bufferOf [(27, 0x4241#16)]) 55 = 0x42#8 := by
  decide +kernel

/-- Program P6's end: CSR = 0x17DC. -/
theorem test_csr_p6 :
    csr { machine with
      classValid := true, lastClass := .error, detectOk := true, detected := true, errValid := true, errFlags := 0x00#8,
      identValid := true, attempts := 1 } = 0x17DC#16 := by decide

/-- Vector L2.D11's end: CSR = 0x18C4. -/
theorem test_csr_d11 :
    csr { machine with
      classValid := true, lastClass := .ready, detectOk := true, detected := true, selDrive := 1#1, attempts := 1 } =
      0x18C4#16 := by decide

/-- Program P3's F_FLAGS under the premise `GC_REMOVABLE_BIT = 7`, `GC_FIXED_BIT = 6`: 0x0017. -/
theorem test_fflags_p3 :
    hostReg 0x00C { machine with
      identValid := true, identW := bufferOf [(0, 0x0040#16), (49, 0x0300#16), (83, 0x4400#16)] } = some 0x0017#16 := by
  decide +kernel

/-- The unmapped addresses of spec/95 section 2.5, and RAW_STATUS after reset. -/
theorem test_host_map :
    hostReg 0x000 machine = none ∧ hostReg 0x00D machine = none ∧ hostReg 0x035 machine = none ∧
    hostReg 0x041 machine = none ∧ hostReg 0x071 machine = none ∧ hostReg 0x200 machine = none ∧
    hostReg 0x002 machine = some 0x0000#16 := ⟨rfl, rfl, rfl, rfl, rfl, rfl, rfl⟩

/-! ### Witnesses: each meets the hypotheses of the statement it is named after -/

theorem witness_DecodeAndEncodeAgree :
    (Instr.detectDrive 0xFF#8).wf = true ∧ decode (.host 0xFF03#16) = .ok (.detectDrive 0xFF#8) ∧
    decode (.device 0xEC#8) = .ok .ataIdentifyDevice := ⟨rfl, rfl, rfl⟩

theorem witness_IllegalWordsAreRefused :
    (withHost [.write 0x000 0x0005#16] machine).host = .write 0x000 0x0005#16 :: [] ∧ machine.fsm = .idle ∧
    illegal 0x0000#16 = true ∧ illegal 0x0005#16 = true ∧ illegal 0x0011#16 = true ∧ illegal 0x0101#16 = true ∧
    illegal 0x0001#16 = false ∧ illegal 0x0004#16 = false ∧ illegal 0xFF03#16 = false := by decide

theorem witness_StepRunsTheDecodedInstruction :
    (withHost [.write 0x000 0x0103#16] machine).host = .write 0x000 0x0103#16 :: [] ∧
    decode (.host 0x0103#16) = .ok (.detectDrive 0x01#8) ∧ (inFsm .idCmd).fsm = .idCmd ∧ (inFsm .idCmd).host = [] ∧
    (withHost [.pass] (inFsm .idCmd)).host = .pass :: [] ∧
    (withHost [.waitIdle] (inFsm .idCmd)).host = .waitIdle :: [] := ⟨rfl, rfl, rfl, rfl, rfl, rfl⟩

theorem witness_PlacedWordRunsNext :
    decodeTableWord 16 0x0004 = some .identifyDevice ∧ decodeTableWord 8 0xEC = some .ataIdentifyDevice := by decide

theorem witness_TurnsOfTheAgents :
    machine.host = [] ∧ (withHost [.pass] machine).host = .pass :: [] ∧
    (withHost [.waitIdle] (inFsm .psRead)).host = .waitIdle :: [] ∧ (inFsm .psRead).fsm ≠ .idle ∧
    (withHost [.waitIdle] machine).host = .waitIdle :: [] ∧ machine.fsm = .idle := by decide

theorem witness_HostReadHasNoEffect :
    hostReg 0x001 machine = some 0x0000#16 ∧ hostReg 0x1FF machine = some 0x0000#16 ∧
    (withHost [.read 0x1FF] machine).host = .read 0x1FF :: [] ∧
    (withHost [.write 0x001 0x0001#16] machine).host = .write 0x001 0x0001#16 :: [] ∧ 0x001 ≠ 0x000 :=
  ⟨rfl, rfl, rfl, rfl, by decide⟩

theorem witness_CommandWhileActiveIsRefused :
    (withHost [.write 0x000 0x0001#16] (inFsm .idDone)).host = .write 0x000 0x0001#16 :: [] ∧
    (inFsm .idDone).fsm ≠ .idle := by decide

theorem witness_RefusalsAreExactlyThoseListed :
    refusalCondition .commandWhileActive (withHost [.write 0x000 0x0000#16] (inFsm .psRead)) ∧
    refusalCondition .illegalCommand (withHost [.write 0x000 0x0000#16] machine) ∧
    refusalCondition .reportErrorWithoutError (withHost [.write 0x000 0x0002#16] machine) ∧
    refusalCondition .identifyWithoutDetect (withHost [.write 0x000 0x0004#16] machine) ∧
    refusalCondition .hostWriteNotCmd (withHost [.write 0x001 0x0001#16] machine) ∧
    refusalCondition .hostReadUnmapped (withHost [.read 0x000] machine) :=
  ⟨⟨_, _, rfl, by decide⟩, ⟨_, _, rfl, by decide⟩, ⟨_, rfl, by decide⟩, ⟨_, rfl, by decide⟩,
    ⟨_, _, _, rfl, by decide⟩, ⟨_, _, rfl, by decide⟩⟩

theorem witness_RefusalMarkIsSticky :
    (∃ t, step { withHost [.reset] machine with refused := true } = .next t) ∧
    (∃ t, step (withHost [.read 0x200] machine) = .next t ∧ machine.refused = false ∧ t.refused = true) :=
  ⟨⟨_, rfl⟩, ⟨_, rfl, rfl, by decide⟩⟩

theorem witness_PollStatusIsAccepted : machine.fsm = .idle := rfl

theorem witness_ReportErrorIsAccepted :
    ∃ s : State, s.fsm = .idle ∧ s.classValid = true ∧ s.lastClass = .error :=
  ⟨{ machine with classValid := true, lastClass := .error }, by decide⟩

theorem witness_ReportErrorWithoutErrorIsRefused :
    (∃ s : State, s.fsm = .idle ∧ s.classValid = false ∧ s.lastClass = .error) ∧
    (∃ s : State, s.fsm = .idle ∧ s.classValid = true ∧ s.lastClass ≠ .error) :=
  ⟨⟨{ machine with lastClass := .error }, by decide⟩, ⟨{ machine with classValid := true }, by decide⟩⟩

theorem witness_DetectDriveIsAccepted : (inFsm .idle).fsm = .idle := rfl

theorem witness_IdentifyDeviceIsAccepted :
    machine.fsm = .idle ∧ machine.detected = false ∧ ({ machine with detected := true } : State).fsm = .idle := by decide

theorem witness_AtaIdentifyDeviceIsIssued : (inFsm .idCmd).fsm = .idCmd := rfl

/-- A byte for each clause; bits 1 to 4 set in some. -/
theorem witness_ClassifyFollowsThePriority :
    (0x3F / 128 % 2 = 0 ∧ 0x3F / 64 % 2 = 0) ∧ (0xC0 / 128 % 2 = 1 ∧ 0xC0 / 64 % 2 = 1) ∧
    (0x80 / 128 % 2 = 1 ∧ 0x80 / 64 % 2 = 0) ∧
    (0x61 / 128 % 2 = 0 ∧ 0x61 / 64 % 2 = 1 ∧ 0x61 % 2 = 1) ∧
    (0x70 / 128 % 2 = 0 ∧ 0x70 / 64 % 2 = 1 ∧ 0x70 % 2 = 0 ∧ 0x70 / 32 % 2 = 1) ∧
    (0x5E / 128 % 2 = 0 ∧ 0x5E / 64 % 2 = 1 ∧ 0x5E % 2 = 0 ∧ 0x5E / 32 % 2 = 0) := by decide

theorem witness_ClassifyIgnoresTheOtherBits : (0x5E#8 : Byte) &&& 0xE1#8 = 0x40#8 &&& 0xE1#8 := by decide

theorem witness_PollStatusSequence :
    ∃ s : State, s.fsm = .psRead ∧ s.psCount = 0 ∧ s.host = [] ∧ 1 ≤ s.params.nDiscard ∧
      (0 ≤ s.params.nDiscard ∧ s.draws[0]? = some 0x0050#16) ∧
      (15 ≤ s.params.nDiscard ∧ s.draws[15]? = some 0x0050#16) :=
  ⟨{ inFsm .psRead with draws := List.replicate 16 0x0050#16 },
    rfl, rfl, rfl, by decide, ⟨by decide, rfl⟩, by decide, rfl⟩

theorem witness_PollDoneDispatches :
    (∃ s : State, s.fsm = .psDone ∧ s.psCtx = .host) ∧ (∃ s : State, s.fsm = .psDone ∧ s.psCtx = .detect) :=
  ⟨⟨inFsm .psDone, by decide⟩, ⟨{ inFsm .psDone with psCtx := .detect }, by decide⟩⟩

theorem witness_PollStatusRunsToItsEnd :
    ∃ s : State, s.fsm = .idle ∧ s.host = [.write 0x000 0x0001#16] ∧ 1 ≤ s.params.nDiscard :=
  ⟨withHost [.write 0x000 0x0001#16] machine, by decide⟩

theorem witness_ErrorReportEmitsEachSetBit : (inFsm .erRead).fsm = .erRead ∧ (inFsm .erRead).host = [] := by decide

theorem witness_ErrorReportDoneDispatches :
    (∃ s : State, s.fsm = .erDone ∧ s.erCtx = .host) ∧ (∃ s : State, s.fsm = .erDone ∧ s.erCtx = .ident) :=
  ⟨⟨inFsm .erDone, by decide⟩, ⟨{ inFsm .erDone with erCtx := .ident }, by decide⟩⟩

theorem witness_ErrorReportOnlyReports :
    (∃ s t : State, s.fsm.inErrorReport = true ∧ blockStep s = .next t ∧ t.fsm = .erEmit) ∧
    (∃ s t : State, s.fsm.inErrorReport = true ∧ blockStep s = .next t ∧ t.fsm = .erDone) ∧
    (∃ s t : State, s.fsm.inErrorReport = true ∧ blockStep s = .next t ∧ t.fsm = .idle) :=
  ⟨⟨inFsm .erRead, _, rfl, rfl, rfl⟩, ⟨{ inFsm .erEmit with errFlags := 0x80#8 }, _, rfl, rfl, by decide⟩,
    ⟨inFsm .erDone, _, rfl, rfl, rfl⟩⟩

/-- REPORT_ERROR in `ER_READ`, in a state that meets the invariant. -/
def reporting : State := { inFsm .erRead with op := .reportError, classValid := true, lastClass := .error }

theorem reporting_inv : reporting.Inv := by constructor <;> decide

theorem witness_ErrorRegisterReadOnlyAfterError :
    (∃ t, step { inFsm .erRead with draws := [0x0084#16] } = .next t ∧
      t.trace = .memRead .errorFeatures 1 0x0084#16 :: (inFsm .erRead).trace) ∧
    (∃ s t : State, step s = .next t ∧ s.fsm = .idle ∧ t.fsm = .erRead) ∧
    (∃ s t : State, step s = .next t ∧ s.fsm = .psDone ∧ t.fsm = .erRead) ∧
    reporting.Inv ∧ reporting.fsm = .erRead :=
  ⟨⟨_, rfl, by decide⟩,
    ⟨{ withHost [.write 0x000 0x0002#16] machine with classValid := true, lastClass := .error }, _, rfl, rfl, by decide⟩,
    ⟨{ inFsm .psDone with psCtx := .idPost, lastClass := .error }, _, rfl, rfl, by decide⟩, reporting_inv, rfl⟩

theorem witness_EveryAttemptWritesTheSelectByte : (inFsm .ddSelect).fsm = .ddSelect := rfl

theorem witness_DetectDispatchesOnTheClass :
    (∃ s : State, s.fsm = .ddEval ∧ s.lastClass = .notReady) ∧ (∃ s : State, s.fsm = .ddEval ∧ s.lastClass = .ready) ∧
    (∃ s : State, s.fsm = .ddEval ∧ s.lastClass ≠ .notReady ∧ s.lastClass ≠ .ready) :=
  ⟨⟨{ inFsm .ddEval with lastClass := .notReady }, by decide⟩, ⟨{ inFsm .ddEval with lastClass := .ready }, by decide⟩,
    ⟨{ inFsm .ddEval with lastClass := .busy }, by decide⟩⟩

theorem witness_BackoffThenRetryOrGiveUp :
    (inFsm .ddBackoff).fsm = .ddBackoff ∧
    (∃ s : State, s.fsm = .ddWait ∧ s.delayLeft = some 0 ∧ s.attempts = 4 ∧ s.attempts < s.budget) ∧
    (∃ s : State, s.fsm = .ddWait ∧ s.delayLeft = some 0 ∧ s.attempts = 5 ∧ s.budget ≤ s.attempts) ∧
    (∃ s : State, s.fsm = .ddWait ∧ s.delayLeft = none) ∧ (∃ s : State, s.fsm = .ddWait ∧ s.delayLeft = some 1) :=
  ⟨rfl, ⟨{ inFsm .ddWait with delayLeft := some 0, attempts := 4 }, by decide⟩,
    ⟨{ inFsm .ddWait with delayLeft := some 0, attempts := 5 }, by decide⟩, ⟨inFsm .ddWait, by decide⟩,
    ⟨{ inFsm .ddWait with delayLeft := some 1 }, by decide⟩⟩

theorem witness_ReadBackTest :
    (inFsm .ddRbW1).fsm = .ddRbW1 ∧ (inFsm .ddRbW2).fsm = .ddRbW2 ∧ (inFsm .ddRbR2).fsm = .ddRbR2 ∧
    (∃ s : State, s.fsm = .ddRbR1 ∧ readByte .cylLow s = 0x12#8) ∧
    (∃ s : State, s.fsm = .ddRbR1 ∧ readByte .cylLow s ≠ 0x12#8) ∧
    (∃ t, step { inFsm .ddEval with lastClass := .ready } = .next t ∧ t.fsm = .ddRbW1) :=
  ⟨rfl, rfl, rfl, ⟨{ inFsm .ddRbR1 with draws := [0x0012#16] }, by decide⟩,
    ⟨{ inFsm .ddRbR1 with draws := [0x00FF#16] }, by decide⟩, ⟨_, rfl, rfl⟩⟩

theorem witness_DetectSucceedsOnlyThroughTheReadBack :
    (inFsm .ddDone).fsm = .ddDone ∧
    (∃ t, step { inFsm .ddRbR2 with draws := [0x0034#16] } = .next t ∧ t.detectOk = true) ∧
    (∃ t, step (inFsm .ddRbW2) = .next t ∧ t.fsm = .ddRbR2) ∧
    (∃ t, step { inFsm .ddRbR1 with draws := [0x0012#16] } = .next t ∧ t.fsm = .ddRbW2) ∧
    (∃ t, step { inFsm .ddEval with lastClass := .notPresent } = .next t ∧ t.fsm = .ddDone) :=
  ⟨rfl, ⟨_, rfl, by decide⟩, ⟨_, rfl, by decide⟩, ⟨_, rfl, by decide⟩, ⟨_, rfl, by decide⟩⟩

/-- Drive 1, and a device that is NotReady. -/
theorem witness_PersistentNotReadyUsesTheBudget :
    ∃ s : State, s.fsm = .ddSelect ∧ s.op = .detectDrive ∧ s.host = [] ∧ s.attempts = 0 ∧
      s.budget = budgetOf s.selDrive ∧ 1 ≤ s.params.nDiscard ∧ s.draws.length = s.budget * (s.params.nDiscard + 1) ∧
      (∀ v ∈ s.draws, classify (lo8 v) = .notReady) ∧ s.delays.length = s.budget ∧ (∀ d ∈ s.delays, d ≠ none) :=
  ⟨{ inFsm .ddSelect with
      op := .detectDrive, selDrive := 1#1, budget := 1, draws := List.replicate 16 0x0000#16, delays := [some 3] },
    rfl, rfl, rfl, rfl, rfl, by decide, rfl, fun v hv => by rw [List.eq_of_mem_replicate hv]; decide, rfl, by decide⟩

/-- DETECT_DRIVE of drive 0 at its first attempt, in a state that meets the invariant. -/
def detecting : State := { inFsm .ddSelect with op := .detectDrive, delays := List.replicate 5 (some 0) }

theorem detecting_inv : detecting.Inv := by constructor <;> decide

theorem witness_DetectDriveAlwaysEnds :
    detecting.Inv ∧ detecting.op = .detectDrive ∧ detecting.host = [] ∧ 5 ≤ detecting.delays.length ∧
    (∀ d ∈ detecting.delays, d ≠ none) ∧ (detecting.fsm = .ddWait → detecting.delayLeft ≠ none) :=
  ⟨detecting_inv, by decide⟩

theorem witness_ReadyDriveIsDetectedByReadBack :
    ∃ (s : State) (vs : List Word) (b r1 r2 : Word), s.fsm = .ddSelect ∧ s.host = [] ∧ 1 ≤ s.params.nDiscard ∧
      vs.length = s.params.nDiscard ∧ s.draws = vs ++ [b, r1, r2] ∧ classify (lo8 b) = .ready :=
  ⟨{ inFsm .ddSelect with draws := List.replicate 15 0x0080#16 ++ [0x0050#16, 0x0012#16, 0x0034#16] },
    List.replicate 15 0x0080#16, 0x0050#16, 0x0012#16, 0x0034#16, rfl, rfl, by decide, rfl, rfl, by decide⟩

theorem witness_PreCommandLoop :
    (∃ s : State, s.fsm = .psDone ∧ s.psCtx = .idPre ∧ s.lastClass = .busy) ∧
    (∃ s : State, s.fsm = .psDone ∧ s.psCtx = .idPre ∧ s.lastClass ≠ .busy) ∧ (inFsm .idPreLog).fsm = .idPreLog :=
  ⟨⟨{ inFsm .psDone with psCtx := .idPre, lastClass := .busy }, by decide⟩,
    ⟨{ inFsm .psDone with psCtx := .idPre, lastClass := .notPresent }, by decide⟩, rfl⟩

theorem witness_PostCommandLoop :
    (∃ s : State, s.fsm = .psDone ∧ s.psCtx = .idPost ∧ s.lastClass = .busy ∧ s.params.logPostBusy = true) ∧
    (∃ s : State, s.fsm = .psDone ∧ s.psCtx = .idPost ∧ s.lastClass = .busy ∧ s.params.logPostBusy = false) ∧
    (∃ s : State, s.fsm = .psDone ∧ s.psCtx = .idPost ∧ s.lastClass = .error) ∧
    (∃ s : State, s.fsm = .psDone ∧ s.psCtx = .idPost ∧ s.lastClass ≠ .busy ∧ s.lastClass ≠ .error) ∧
    (inFsm .idPostLog).fsm = .idPostLog :=
  ⟨⟨{ inFsm .psDone with psCtx := .idPost, lastClass := .busy, params := ⟨15, 1000, true, 7, 6, 0, 1⟩ }, by decide⟩,
    ⟨{ inFsm .psDone with psCtx := .idPost, lastClass := .busy }, by decide⟩,
    ⟨{ inFsm .psDone with psCtx := .idPost, lastClass := .error }, by decide⟩,
    ⟨{ inFsm .psDone with psCtx := .idPost, lastClass := .fault }, by decide⟩, rfl⟩

/-- The machine at the start of a poll, before a device that is Busy for two polls. -/
def busyPoll (ctx : PsCtx) (log : Bool) : State :=
  { inFsm .psRead with
    psCtx := ctx, params := ⟨15, 1000, log, 7, 6, 0, 1⟩, draws := List.replicate 32 0x0080#16 }

/-- Two rounds of each loop, the post-command loop for both values of `LOG_POST_BUSY`. -/
theorem witness_BusyDeviceKeepsTheLoop :
    (∀ ctx log, (busyPoll ctx log).fsm = .psRead ∧ (busyPoll ctx log).psCount = 0 ∧ (busyPoll ctx log).host = [] ∧
      1 ≤ (busyPoll ctx log).params.nDiscard ∧
      (busyPoll ctx log).draws.length = 2 * ((busyPoll ctx log).params.nDiscard + 1) ∧
      (∀ v ∈ (busyPoll ctx log).draws, classify (lo8 v) = .busy)) ∧
    (busyPoll .idPre false).psCtx = .idPre ∧
    (busyPoll .idPost true).psCtx = .idPost ∧ (busyPoll .idPost true).params.logPostBusy = true ∧
    (busyPoll .idPost false).psCtx = .idPost ∧ (busyPoll .idPost false).params.logPostBusy = false :=
  ⟨fun _ _ => ⟨rfl, rfl, rfl, show 1 ≤ 15 by decide, rfl,
      fun v hv => by rw [List.eq_of_mem_replicate hv]; decide⟩, rfl, rfl, rfl, rfl, rfl⟩

theorem witness_TransferReads256Words :
    ∃ s : State, s.fsm = .idXfer ∧ s.xferK = 0 ∧ s.host = [] ∧ s.draws[0]? = some 0x4241#16 ∧
      s.draws[255]? = some 0x4241#16 :=
  ⟨{ inFsm .idXfer with draws := List.replicate 256 0x4241#16 },
    rfl, rfl, rfl, rfl, List.getElem?_replicate⟩

theorem witness_IdentifyCompletion :
    (inFsm .idFields).fsm = .idFields ∧ (inFsm .idDump).fsm = .idDump ∧ (inFsm .idDone).fsm = .idDone := by decide

theorem witness_StringExtraction : (0 < 20) ∧ (19 < 20) ∧ (9 < 10) ∧ (3 < 4) := by decide

theorem witness_ByteViewIsLowByteFirst :
    (0 < 256) ∧ (255 < 256) ∧
    (∃ t bytes, step (inFsm .idDump) = .next t ∧ t.trace = .emit (.dumpRequest bytes) :: (inFsm .idDump).trace) :=
  ⟨by decide, by decide, _, _, rfl, rfl⟩

/-- Post-command status 0x58, pre-command status 0x00. -/
theorem witness_IdentifyRunsToItsEnd :
    ∃ (s : State) (vs us ws : List Word) (b c : Word),
      s.fsm = .idle ∧ s.detected = true ∧ s.host = [.write 0x000 0x0004#16] ∧ 1 ≤ s.params.nDiscard ∧
      vs.length = s.params.nDiscard ∧ us.length = s.params.nDiscard ∧ ws.length = 256 ∧
      s.draws = vs ++ b :: (us ++ c :: ws) ∧
      classify (lo8 b) ≠ .busy ∧ classify (lo8 c) ≠ .busy ∧ classify (lo8 c) ≠ .error :=
  ⟨{ withHost [.write 0x000 0x0004#16] machine with
      detected := true
      detectOk := true
      draws := List.replicate 15 0x0000#16 ++ 0x0000#16 :: (List.replicate 15 0x0080#16 ++ 0x0058#16 ::
        List.replicate 256 0x4241#16) },
    List.replicate 15 0x0000#16, List.replicate 15 0x0080#16, List.replicate 256 0x4241#16, 0x0000#16, 0x0058#16,
    rfl, rfl, rfl, by decide, rfl, rfl, List.length_replicate, rfl, by decide, by decide, by decide⟩

theorem witness_CsrFields : machine.classValid = false ∧ (∃ s : State, s.classValid = true ∧ s.lastClass = .notReady) :=
  ⟨rfl, ⟨{ machine with classValid := true, lastClass := .notReady }, by decide⟩⟩

theorem witness_GatedRegisters :
    (strField machine.identW 10 10)[20]? = some 0x00#8 ∧ (strField machine.identW 23 4)[8]? = some 0x00#8 ∧
    (strField machine.identW 27 20)[40]? = some 0x00#8 ∧ 255 < 256 := by decide +kernel

theorem witness_HostNeverSeesHiddenState :
    ∃ t : State, t ≠ machine ∧ hiddenDiffer machine t :=
  ⟨{ machine with rawStatus := 0x50#8, lastClass := .busy, errFlags := 0x84#8, selDrive := 1#1, budget := 1 },
    by decide, rfl⟩

theorem witness_OneEventPerStep : ∃ t, step (inFsm .psSettle) = .next t := ⟨_, rfl⟩

theorem witness_DeviceAccessesAreThoseOfTheTable :
    (∃ t, step (inFsm .ddRbW1) = .next t ∧ t.trace = .memWrite .cylLow 1 0x0012#16 :: (inFsm .ddRbW1).trace) ∧
    (∃ t, step { inFsm .psRead with draws := [0x0050#16] } = .next t ∧
      t.trace = .memRead .statusCommand 1 0x0050#16 :: (inFsm .psRead).trace) :=
  ⟨⟨_, rfl, by decide⟩, ⟨_, rfl, by decide⟩⟩

theorem witness_DeviceKeepsTheLastWrites :
    (∃ t, step (inFsm .ddRbW2) = .next t ∧ t.trace = .memWrite .cylLow 1 0x0034#16 :: (inFsm .ddRbW2).trace) ∧
    (∃ t, step (withHost [.reset] machine) = .next t ∧ ∀ r n v, t.trace ≠ .memWrite r n v :: machine.trace) :=
  ⟨⟨_, rfl, by decide⟩, ⟨_, rfl, fun _ _ _ h => nomatch h⟩⟩

/-- Every clause's change happens in some step. -/
theorem witness_WritersOfTheResultRegisters :
    (∃ t, step { inFsm .psAuth with draws := [0x0050#16] } = .next t ∧ t.rawStatus ≠ machine.rawStatus ∧
      t.classValid ≠ machine.classValid) ∧
    (∃ t, step { inFsm .psAuth with draws := [0x0080#16] } = .next t ∧ t.lastClass ≠ machine.lastClass) ∧
    (∃ t, step { inFsm .erRead with draws := [0x0084#16] } = .next t ∧ t.errFlags ≠ machine.errFlags ∧
      t.errValid ≠ machine.errValid) ∧
    (∃ t, step { withHost [.write 0x000 0x0004#16] machine with detected := true, errValid := true, identValid := true } =
      .next t ∧ t.errValid ≠ true ∧ t.identValid = false) ∧
    (∃ t, step (withHost [.write 0x000 0x0103#16] machine) = .next t ∧ t.selDrive ≠ machine.selDrive ∧
      t.budget ≠ machine.budget) ∧
    (∃ t, step { inFsm .ddDone with detectOk := true } = .next t ∧ t.detected = true) ∧
    (∃ t, step { inFsm .ddDone with detected := true } = .next t ∧ t.detected = false) ∧
    (∃ t, step { withHost [.write 0x000 0x0003#16] machine with detected := true, identValid := true } = .next t ∧
      t.detected = false ∧ t.identValid = false) :=
  ⟨⟨_, rfl, by decide⟩, ⟨_, rfl, by decide⟩, ⟨_, rfl, by decide⟩, ⟨_, rfl, by decide⟩, ⟨_, rfl, by decide⟩,
    ⟨_, rfl, by decide⟩, ⟨_, rfl, by decide⟩, ⟨_, rfl, by decide⟩⟩

/-- Every way `s.attempts` and `s.detect_ok` change. -/
theorem witness_WritersOfTheDetectionResult :
    (∃ t, step (inFsm .ddSelect) = .next t ∧ t.attempts = 1) ∧
    (∃ t, step { withHost [.write 0x000 0x0003#16] machine with attempts := 5, detectOk := true } = .next t ∧
      t.attempts = 0 ∧ t.detectOk = false) ∧
    (∃ t, step { inFsm .ddRbR2 with draws := [0x0034#16] } = .next t ∧ t.detectOk = true) ∧
    (∃ t, step { inFsm .ddRbR2 with draws := [0x0012#16], detectOk := true } = .next t ∧ t.detectOk = false) ∧
    (∃ t, step { inFsm .ddRbR1 with draws := [0x00FF#16], detectOk := true } = .next t ∧ t.detectOk = false) ∧
    (∃ t, step { inFsm .ddEval with lastClass := .fault, detectOk := true } = .next t ∧ t.detectOk = false) ∧
    (∃ t, step { inFsm .ddWait with delayLeft := some 0, attempts := 5, detectOk := true } = .next t ∧
      t.detectOk = false) :=
  ⟨⟨_, rfl, by decide⟩, ⟨_, rfl, by decide⟩, ⟨_, rfl, by decide⟩, ⟨_, rfl, by decide⟩, ⟨_, rfl, by decide⟩,
    ⟨_, rfl, by decide⟩, ⟨_, rfl, by decide⟩⟩

/-- The ways `s.xfer_k` becomes 0; the next theorem has its rise. -/
theorem witness_WritersOfTheTransferCounter :
    (∃ t, step { withHost [.write 0x000 0x0004#16] machine with detected := true, xferK := 256 } = .next t ∧
      t.xferK = 0) ∧
    (∃ t, step { inFsm .psDone with psCtx := .idPost, xferK := 256 } = .next t ∧ t.xferK = 0) ∧
    (∃ t, step { inFsm .erDone with erCtx := .ident, xferK := 256 } = .next t ∧ t.xferK = 0) :=
  ⟨⟨_, rfl, by decide⟩, ⟨_, rfl, by decide⟩, ⟨_, rfl, by decide⟩⟩

/-- The last word of a transfer: the buffer changes there and becomes valid. -/
theorem witness_WritersOfTheIdentifyBuffer :
    nextHolds (step { inFsm .idXfer with xferK := 255, draws := [0x4241#16] })
      (fun t => decide (wordAt t.identW 255 ≠ wordAt machine.identW 255 ∧ t.identValid = true ∧ t.xferK = 256)) = true := by
  decide +kernel

theorem witness_ParametersNeverChange : ∃ t, step (withHost [.reset] machine) = .next t := ⟨_, rfl⟩

theorem witness_ResetInput : (withHost [.reset] (inFsm .ddWait)).host = .reset :: [] := rfl

theorem witness_WaitsWithoutBound :
    (∃ s : State, s.host = [] ∧ s.fsm = .idle) ∧ (∃ s : State, s.host = [] ∧ s.fsm = .ddWait ∧ s.delayLeft = none) :=
  ⟨⟨machine, by decide⟩, ⟨inFsm .ddWait, by decide⟩⟩

theorem machine_inv : machine.Inv := by constructor <;> decide

theorem witness_EveryStepKeepsTheInvariant :
    machine.Inv ∧ (∃ t, step machine = .next t) ∧ detecting.Inv ∧ (∃ t, step detecting = .next t) :=
  ⟨machine_inv, ⟨_, rfl⟩, detecting_inv, ⟨_, rfl⟩⟩

theorem witness_InvariantStatesNeverStop : reporting.Inv := reporting_inv

/-- Rule R234: reads and waits left to do are no commands; a command left, or a refusal, is no good end. -/
theorem test_good_end :
    (withHost [.read 0x001] machine).GoodEnd ∧ (withHost [.waitIdle] machine).GoodEnd ∧
    ¬(withHost [.waitIdle, .write 0x000 0x0001#16] machine).GoodEnd ∧ ¬(inFsm .ddWait).GoodEnd ∧
    ¬({ machine with refused := true } : State).GoodEnd := by
  simp only [State.GoodEnd]
  decide

/-- A host that still waits, reads the last mapped address, and resets. -/
theorem witness_GoodEndIsKept :
    (withHost [.waitIdle, .read 0x1FF, .reset] machine).GoodEnd ∧
    (∃ t, step (withHost [.waitIdle, .read 0x1FF, .reset] machine) = .next t ∧ t.refused = false) ∧
    (∀ a v, HostAction.write a v ∉ (withHost [.waitIdle, .read 0x1FF, .reset] machine).host) ∧
    (∀ a, HostAction.read a ∈ (withHost [.waitIdle, .read 0x1FF, .reset] machine).host →
      hostReg a (withHost [.waitIdle, .read 0x1FF, .reset] machine) ≠ none) :=
  ⟨by simp only [State.GoodEnd]; decide, ⟨_, rfl, rfl⟩, by simp [withHost], fun a h => by
    obtain rfl : a = 0x1FF := by simpa [withHost] using h
    simp [hostReg, identReg]⟩

end Sys2Proof.Tests
end

section
/-! SUPPORT. The trace of a step (rules R6, R11, R58): the event each state of the block records, and that no step records
two. -/

namespace Sys2Proof.Machine

open Host.Outcome

/-! ### The trace after each of the block's own steps -/

section
variable (s : State)

@[simp] theorem stepPsRead_trace :
    (stepPsRead s).trace = .memRead .statusCommand 1 (readValue .statusCommand s) :: s.trace := rfl
@[simp] theorem stepPsSettle_trace : (stepPsSettle s).trace = .settle s.params.tSettleNs :: s.trace := rfl
@[simp] theorem stepPsAuth_trace :
    (stepPsAuth s).trace = .memRead .statusCommand 1 (readValue .statusCommand s) :: s.trace := rfl

@[simp] theorem afterPrePoll_trace : (afterPrePoll s).trace = s.trace := by
  unfold afterPrePoll
  split <;> simp

@[simp] theorem afterPostPoll_trace : (afterPostPoll s).trace = s.trace := by
  unfold afterPostPoll
  split_ifs <;> simp

@[simp] theorem stepPsDone_trace : (stepPsDone s).trace = s.trace := by
  unfold stepPsDone
  split <;> simp

@[simp] theorem stepErRead_trace :
    (stepErRead s).trace = .memRead .errorFeatures 1 (readValue .errorFeatures s) :: s.trace := rfl
@[simp] theorem emitFlag_trace (j : Fin 8) : (emitFlag j s).trace = .emit (.errorFlag (flagOf j)) :: s.trace := rfl

@[simp] theorem stepErDone_trace : (stepErDone s).trace = s.trace := by
  unfold stepErDone
  split <;> simp

@[simp] theorem stepDdSelect_trace :
    (stepDdSelect s).trace = .memWrite .driveHead 1 (zext16 (selByte s.selDrive)) :: s.trace := rfl

@[simp] theorem stepDdEval_trace : (stepDdEval s).trace = s.trace := by
  unfold stepDdEval
  split <;> simp

@[simp] theorem stepDdBackoff_trace :
    (stepDdBackoff s).trace = .delayRequest backoffSeconds backoffMicroseconds :: s.trace := rfl

@[simp] theorem afterDelay_trace : (afterDelay s).trace = .delayDone :: s.trace := by
  unfold afterDelay
  split <;> simp

/-- `DD_WAIT` records the completion of the delay, and nothing while the delay goes on (rule R145). -/
theorem stepDdWait_trace :
    (stepDdWait s).trace = if s.delayLeft = some 0 then .delayDone :: s.trace else s.trace := by
  unfold stepDdWait
  split <;> simp [*]

@[simp] theorem stepDdRbW1_trace : (stepDdRbW1 s).trace = .memWrite .cylLow 1 (zext16 rbValue1) :: s.trace := rfl

@[simp] theorem stepDdRbR1_trace :
    (stepDdRbR1 s).trace = .memRead .cylLow 1 (readValue .cylLow s) :: s.trace := by
  unfold stepDdRbR1
  split <;> simp

@[simp] theorem stepDdRbW2_trace : (stepDdRbW2 s).trace = .memWrite .cylLow 1 (zext16 rbValue2) :: s.trace := rfl
@[simp] theorem stepDdRbR2_trace :
    (stepDdRbR2 s).trace = .memRead .cylLow 1 (readValue .cylLow s) :: s.trace := rfl
@[simp] theorem stepDdDone_trace : (stepDdDone s).trace = s.trace := rfl

@[simp] theorem stepIdPreLog_trace : (stepIdPreLog s).trace = .emit .busyIteration :: s.trace := rfl
@[simp] theorem stepIdPostLog_trace : (stepIdPostLog s).trace = .emit .busyIteration :: s.trace := rfl
@[simp] theorem storeWord_trace : (storeWord s).trace = .memRead .data 2 (readValue .data s) :: s.trace := rfl
@[simp] theorem transferDone_trace : (transferDone s).trace = s.trace := rfl
@[simp] theorem stepIdFields_trace :
    (stepIdFields s).trace = .emit (.fieldsReport (fieldsOf s.params s.identW)) :: s.trace := rfl
@[simp] theorem stepIdDump_trace :
    (stepIdDump s).trace = .emit (.dumpRequest (byteView s.identW)) :: s.trace := rfl
@[simp] theorem stepIdDone_trace : (stepIdDone s).trace = s.trace := rfl

theorem exec_ataIdentifyDevice :
    exec .ataIdentifyDevice s = .next (startPoll .idPost (portWrite .statusCommand (zext16 cmdIdentify) s)) := rfl
end

/-! ### At most one event -/

/-- The trace of `t` is that of `s`, or has one event on top of it. -/
def AtMostOneEvent (s t : State) : Prop := t.trace = s.trace ∨ ∃ e, t.trace = e :: s.trace

namespace AtMostOneEvent

theorem of_eq {s t : State} (h : t.trace = s.trace) : AtMostOneEvent s t := .inl h

theorem of_cons {s t : State} {e : Event} (h : t.trace = e :: s.trace) : AtMostOneEvent s t := .inr ⟨e, h⟩

theorem of_refuse (r : RefuseReason) (s : State) : AtMostOneEvent s (refuse r s) := of_cons (refuse_trace s r)

end AtMostOneEvent

theorem atMostOneEvent_popHost {s t : State} : AtMostOneEvent (popHost s) t ↔ AtMostOneEvent s t := by
  simp [AtMostOneEvent]

/-- Of all the ways an instruction can answer, only a refusal and the device command record an event. -/
theorem exec_atMostOneEvent {i : Instr} {s t : State} (h : exec i s = .next t) : AtMostOneEvent s t := by
  by_cases hi : i = .ataIdentifyDevice
  · subst hi
    rw [exec_ataIdentifyDevice] at h
    cases h
    exact .of_cons (portWrite_trace s _ _)
  · obtain ⟨-, rfl⟩ | ⟨-, ⟨-, rfl⟩ | ⟨-, -, -, rfl⟩ | ⟨-, -, rfl⟩ | ⟨_, -, rfl⟩ | ⟨-, -, rfl⟩ | ⟨-, -, rfl⟩⟩ :=
      exec_cases hi h
    · exact .of_refuse _ s
    · exact .of_eq rfl
    · exact .of_eq rfl
    · exact .of_refuse _ s
    · exact .of_eq rfl
    · exact .of_eq rfl
    · exact .of_refuse _ s

theorem stepErEmit_atMostOneEvent {s t : State} (h : stepErEmit s = .next t) : AtMostOneEvent s t := by
  obtain ⟨-, he⟩ | ⟨j, -, -, he⟩ | ⟨-, -, he⟩ := stepErEmit_cases s <;> rw [he] at h <;> cases h
  · exact .of_cons (emit_trace s _)
  · exact .of_cons (emitFlag_trace s j)

theorem stepIdXfer_atMostOneEvent {s t : State} (h : stepIdXfer s = .next t) : AtMostOneEvent s t := by
  obtain ⟨-, he⟩ | ⟨-, he⟩ | ⟨-, he⟩ := stepIdXfer_cases s <;> rw [he] at h <;> cases h
  · exact .of_cons (storeWord_trace s)
  · exact .of_cons (storeWord_trace s)

theorem stepDdWait_atMostOneEvent (s : State) : AtMostOneEvent s (stepDdWait s) := by
  rw [AtMostOneEvent, stepDdWait_trace]
  split <;> simp

/-- The block's own step, by its state (rules R11, R22): a state that waits in `IDLE`, dispatches or ends an operation
records nothing, and every other state but `DD_WAIT` records one event. -/
theorem blockStep_atMostOneEvent {s t : State} (h : blockStep s = .next t) : AtMostOneEvent s t := by
  cases hf : s.fsm with
  | idCmd => exact exec_atMostOneEvent (blockStep_idCmd hf ▸ h)
  | erEmit => exact stepErEmit_atMostOneEvent (blockStep_erEmit hf ▸ h)
  | idXfer => exact stepIdXfer_atMostOneEvent (blockStep_idXfer hf ▸ h)
  | ddWait =>
    rw [blockStep_ddWait hf] at h
    cases h
    exact stepDdWait_atMostOneEvent s
  | idle | psDone | erDone | ddEval | ddDone | idDone =>
    simp only [blockStep, hf, next.injEq] at h
    subst h
    exact .of_eq (by simp)
  | psRead | psSettle | psAuth | erRead | ddSelect | ddBackoff | ddRbW1 | ddRbR1 | ddRbW2 | ddRbR2 | idPreLog
    | idPostLog | idFields | idDump =>
    simp only [blockStep, hf, next.injEq] at h
    subst h
    exact .inr (by simp)

/-- Settles O50: by what a step can do (`step_cases`), each turn records nothing, a refusal, or the one event of the
instruction or of the block's own step. -/
theorem oneEventPerStep : Obligations.OneEventPerStep := by
  intro s t h
  change AtMostOneEvent s t
  obtain ⟨u, rfl | rfl, hb⟩ | ⟨_, _, _, -, -, he⟩ | ⟨r, rfl⟩ | ⟨_, _, rfl⟩ | rfl | rfl := step_cases h
  · exact blockStep_atMostOneEvent hb
  · exact atMostOneEvent_popHost.mp (blockStep_atMostOneEvent hb)
  · exact atMostOneEvent_popHost.mp (exec_atMostOneEvent he)
  · exact atMostOneEvent_popHost.mp (.of_refuse r _)
  · exact .of_eq rfl
  · exact .of_eq (popHost_trace s)
  · exact .of_eq (assertReset_trace _)

end Sys2Proof.Machine
end

section
/-! SUPPORT. The decoder of a host command word, read backwards: which words it refuses, and which word each command with a
precondition comes from (rules R70 to R73). -/

namespace Sys2Proof

/-- A command word is its operand, its reserved field and its operation code (rule R70). -/
theorem cmdArg_append_cmdRsv_append_cmdOp (w : Word) : cmdArg w ++ cmdRsv w ++ cmdOp w = w := by
  apply BitVec.eq_of_getLsbD_eq
  intro i hi
  simp only [cmdArg, cmdRsv, cmdOp, BitVec.getLsbD_append, BitVec.getLsbD_extractLsb']
  grind

/-- The operation codes that are no command's (rule R73). -/
theorem opUnassigned_iff (op : BitVec 4) :
    (op.toNat = 0 ∨ 5 ≤ op.toNat) ↔ op ≠ 0x1#4 ∧ op ≠ 0x2#4 ∧ op ≠ 0x3#4 ∧ op ≠ 0x4#4 := by
  revert op
  decide

/-- The decoder refuses only words that rule R73 lists. -/
theorem decodeHost_illegal {w : Word} {e : Illegal} (h : decodeHost w = .error e) : illegal w = true := by
  have hun := opUnassigned_iff (cmdOp w)
  unfold decodeHost withoutArg at h
  simp only [illegal, Bool.or_eq_true, Bool.and_eq_true, decide_eq_true_eq]
  split_ifs at h with hrsv h1 harg h2 harg h3 h4 harg
  · exact .inr ⟨.inl (congrArg BitVec.toNat h1), harg⟩
  · exact .inr ⟨.inr (.inl (congrArg BitVec.toNat h2)), harg⟩
  · exact .inr ⟨.inr (.inr (congrArg BitVec.toNat h4)), harg⟩
  · exact .inl (.inl (hun.mpr ⟨h1, h2, h3, h4⟩))
  · exact .inl (.inr hrsv)

theorem word_eq_of_fields {w : Word} {op : BitVec 4} {arg : Byte} (hrsv : cmdRsv w = 0#4) (hop : cmdOp w = op)
    (harg : cmdArg w = arg) : w = hostWord op arg := by
  rw [← cmdArg_append_cmdRsv_append_cmdOp w, hrsv, hop, harg, hostWord]

theorem decodeHost_reportError {w : Word} (h : decodeHost w = .ok .reportError) : w = 0x0002#16 := by
  unfold decodeHost withoutArg at h
  split_ifs at h with hrsv _ harg hop harg <;> cases h
  exact word_eq_of_fields hrsv hop harg

theorem decodeHost_identifyDevice {w : Word} (h : decodeHost w = .ok .identifyDevice) : w = 0x0004#16 := by
  unfold decodeHost withoutArg at h
  split_ifs at h <;> cases h
  exact word_eq_of_fields ‹_› ‹_› ‹_›

end Sys2Proof
end

section
/-! SUPPORT. Everything the block's own step can do, one constructor for each way out of each state (rule R22): proofs about
all steps of the block go by cases on it. -/

namespace Sys2Proof.Machine

open Host.Outcome

/-- The block's own step from `s`, by the state it starts in and the branch it takes. -/
inductive BlockMove (s : State) : State → Prop
  | idle (hf : s.fsm = .idle) : BlockMove s s
  | psRead (hf : s.fsm = .psRead) : BlockMove s (stepPsRead s)
  | psSettle_again (hf : s.fsm = .psSettle) (hn : s.psCount < s.params.nDiscard) : BlockMove s (goto .psRead (settle s))
  | psSettle_last (hf : s.fsm = .psSettle) (hn : s.params.nDiscard ≤ s.psCount) : BlockMove s (goto .psAuth (settle s))
  | psAuth (hf : s.fsm = .psAuth) : BlockMove s (stepPsAuth s)
  | psDone_host (hf : s.fsm = .psDone) (hc : s.psCtx = .host) : BlockMove s (finish s)
  | psDone_detect (hf : s.fsm = .psDone) (hc : s.psCtx = .detect) : BlockMove s (goto .ddEval s)
  | psDone_preBusy (hf : s.fsm = .psDone) (hc : s.psCtx = .idPre) (hl : s.lastClass = .busy) :
      BlockMove s (goto .idPreLog s)
  | psDone_preOther (hf : s.fsm = .psDone) (hc : s.psCtx = .idPre) (hl : s.lastClass ≠ .busy) :
      BlockMove s (goto .idCmd s)
  | psDone_postLog (hf : s.fsm = .psDone) (hc : s.psCtx = .idPost) (hl : s.lastClass = .busy)
      (hp : s.params.logPostBusy = true) : BlockMove s (goto .idPostLog s)
  | psDone_postAgain (hf : s.fsm = .psDone) (hc : s.psCtx = .idPost) (hl : s.lastClass = .busy)
      (hp : s.params.logPostBusy = false) : BlockMove s (startPoll .idPost s)
  | psDone_postError (hf : s.fsm = .psDone) (hc : s.psCtx = .idPost) (hl : s.lastClass = .error) :
      BlockMove s (startErrorReport .ident s)
  | psDone_postOther (hf : s.fsm = .psDone) (hc : s.psCtx = .idPost) (hb : s.lastClass ≠ .busy)
      (he : s.lastClass ≠ .error) : BlockMove s (startTransfer s)
  | erRead (hf : s.fsm = .erRead) : BlockMove s (stepErRead s)
  | erEmit_none (hf : s.fsm = .erEmit) (he : s.errFlags = 0#8) : BlockMove s (goto .erDone (emit .errorNoFlags s))
  | erEmit_more (j : Fin 8) (hf : s.fsm = .erEmit) (he : s.errFlags ≠ 0#8) (hj : nextErrorBit s.errFlags s.erI = some j)
      (hn : nextErrorBit s.errFlags (j.val + 1) ≠ none) :
      BlockMove s (goto .erEmit { emit (.errorFlag (flagOf j)) s with erI := j.val + 1 })
  | erEmit_last (j : Fin 8) (hf : s.fsm = .erEmit) (he : s.errFlags ≠ 0#8) (hj : nextErrorBit s.errFlags s.erI = some j)
      (hn : nextErrorBit s.errFlags (j.val + 1) = none) :
      BlockMove s (goto .erDone { emit (.errorFlag (flagOf j)) s with erI := j.val + 1 })
  | erDone_host (hf : s.fsm = .erDone) (hc : s.erCtx = .host) : BlockMove s (finish s)
  | erDone_ident (hf : s.fsm = .erDone) (hc : s.erCtx = .ident) : BlockMove s (startTransfer s)
  | ddSelect (hf : s.fsm = .ddSelect) : BlockMove s (stepDdSelect s)
  | ddEval_notReady (hf : s.fsm = .ddEval) (hl : s.lastClass = .notReady) : BlockMove s (goto .ddBackoff s)
  | ddEval_ready (hf : s.fsm = .ddEval) (hl : s.lastClass = .ready) : BlockMove s (goto .ddRbW1 s)
  | ddEval_fails (hf : s.fsm = .ddEval) (hn : s.lastClass ≠ .notReady) (hr : s.lastClass ≠ .ready) :
      BlockMove s (detectFails s)
  | ddBackoff (hf : s.fsm = .ddBackoff) : BlockMove s (stepDdBackoff s)
  | ddWait_retry (hf : s.fsm = .ddWait) (hd : s.delayLeft = some 0) (ha : s.attempts < s.budget) :
      BlockMove s (goto .ddSelect (delayCompletes s))
  | ddWait_fails (hf : s.fsm = .ddWait) (hd : s.delayLeft = some 0) (ha : s.budget ≤ s.attempts) :
      BlockMove s (detectFails (delayCompletes s))
  | ddWait_goesOn (k : Nat) (hf : s.fsm = .ddWait) (hd : s.delayLeft = some (k + 1)) :
      BlockMove s { s with delayLeft := some k }
  | ddWait_forever (hf : s.fsm = .ddWait) (hd : s.delayLeft = none) : BlockMove s s
  | ddRbW1 (hf : s.fsm = .ddRbW1) : BlockMove s (stepDdRbW1 s)
  | ddRbR1_match (hf : s.fsm = .ddRbR1) (hb : readByte .cylLow s = rbValue1) :
      BlockMove s (goto .ddRbW2 (portRead .cylLow s))
  | ddRbR1_fails (hf : s.fsm = .ddRbR1) (hb : readByte .cylLow s ≠ rbValue1) :
      BlockMove s (detectFails (portRead .cylLow s))
  | ddRbW2 (hf : s.fsm = .ddRbW2) : BlockMove s (stepDdRbW2 s)
  | ddRbR2 (hf : s.fsm = .ddRbR2) : BlockMove s (stepDdRbR2 s)
  | ddDone (hf : s.fsm = .ddDone) : BlockMove s (stepDdDone s)
  | idPreLog (hf : s.fsm = .idPreLog) : BlockMove s (stepIdPreLog s)
  | idCmd (hf : s.fsm = .idCmd) : BlockMove s (startPoll .idPost (portWrite .statusCommand (zext16 cmdIdentify) s))
  | idPostLog (hf : s.fsm = .idPostLog) : BlockMove s (stepIdPostLog s)
  | idXfer_more (hf : s.fsm = .idXfer) (hk : s.xferK + 1 < 256) : BlockMove s (goto .idXfer (storeWord s))
  | idXfer_error (hf : s.fsm = .idXfer) (hk : s.xferK + 1 = 256) (hl : s.lastClass = .error) :
      BlockMove s (goto .idDump { storeWord s with identValid := true })
  | idXfer_good (hf : s.fsm = .idXfer) (hk : s.xferK + 1 = 256) (hl : s.lastClass ≠ .error) :
      BlockMove s (goto .idFields { storeWord s with identValid := true })
  | idFields (hf : s.fsm = .idFields) : BlockMove s (stepIdFields s)
  | idDump (hf : s.fsm = .idDump) : BlockMove s (stepIdDump s)
  | idDone (hf : s.fsm = .idDone) : BlockMove s (stepIdDone s)

namespace BlockMove

variable {s t : State}

theorem of_stepPsSettle (hf : s.fsm = .psSettle) : BlockMove s (stepPsSettle s) := by
  unfold stepPsSettle
  split
  · exact .psSettle_again hf ‹_›
  · exact .psSettle_last hf (by omega)

theorem of_stepPsDone (hf : s.fsm = .psDone) : BlockMove s (stepPsDone s) := by
  unfold stepPsDone
  split
  · exact .psDone_host hf ‹_›
  · exact .psDone_detect hf ‹_›
  · unfold afterPrePoll
    split
    · exact .psDone_preBusy hf ‹_› ‹_›
    · exact .psDone_preOther hf ‹_› ‹_›
  · unfold afterPostPoll
    split_ifs with hb hp he
    · exact .psDone_postLog hf ‹_› hb hp
    · exact .psDone_postAgain hf ‹_› hb (Bool.eq_false_iff.mpr hp)
    · exact .psDone_postError hf ‹_› he
    · exact .psDone_postOther hf ‹_› hb he

theorem of_stepErDone (hf : s.fsm = .erDone) : BlockMove s (stepErDone s) := by
  unfold stepErDone
  split
  · exact .erDone_host hf ‹_›
  · exact .erDone_ident hf ‹_›

theorem of_stepDdEval (hf : s.fsm = .ddEval) : BlockMove s (stepDdEval s) := by
  cases hl : s.lastClass <;> simp only [stepDdEval, hl]
  case notReady => exact .ddEval_notReady hf hl
  case ready => exact .ddEval_ready hf hl
  all_goals exact .ddEval_fails hf (by simp [hl]) (by simp [hl])

theorem of_stepDdWait (hf : s.fsm = .ddWait) : BlockMove s (stepDdWait s) := by
  unfold stepDdWait
  split
  · unfold afterDelay
    split
    · exact .ddWait_retry hf ‹_› ‹_›
    · exact .ddWait_fails hf ‹_› (by omega)
  · exact .ddWait_goesOn _ hf ‹_›
  · exact .ddWait_forever hf ‹_›

theorem of_stepDdRbR1 (hf : s.fsm = .ddRbR1) : BlockMove s (stepDdRbR1 s) := by
  unfold stepDdRbR1
  split
  · exact .ddRbR1_match hf ‹_›
  · exact .ddRbR1_fails hf ‹_›

theorem of_stepErEmit (hf : s.fsm = .erEmit) (h : stepErEmit s = .next t) : BlockMove s t := by
  obtain ⟨h0, he⟩ | ⟨j, h0, hj, he⟩ | ⟨-, -, he⟩ := stepErEmit_cases s <;> rw [he] at h <;> cases h
  · exact .erEmit_none hf h0
  · unfold emitFlag
    split
    · exact .erEmit_last j hf h0 hj ‹_›
    · exact .erEmit_more j hf h0 hj ‹_›

theorem of_stepIdXfer (hf : s.fsm = .idXfer) (h : stepIdXfer s = .next t) : BlockMove s t := by
  obtain ⟨hk, he⟩ | ⟨hk, he⟩ | ⟨-, he⟩ := stepIdXfer_cases s <;> rw [he] at h <;> cases h
  · exact .idXfer_more hf hk
  · unfold transferDone
    split
    · exact .idXfer_error hf hk ‹_›
    · exact .idXfer_good hf hk ‹_›

/-- Every next state of the block's own step is reached by one of the moves. -/
theorem of_blockStep (h : blockStep s = .next t) : BlockMove s t := by
  cases hf : s.fsm
  case erEmit => exact of_stepErEmit hf (blockStep_erEmit hf ▸ h)
  case idXfer => exact of_stepIdXfer hf (blockStep_idXfer hf ▸ h)
  all_goals
    simp only [blockStep, hf, exec_ataIdentifyDevice, next.injEq] at h
    subst h
  case psSettle => exact of_stepPsSettle hf
  case psDone => exact of_stepPsDone hf
  case erDone => exact of_stepErDone hf
  case ddEval => exact of_stepDdEval hf
  case ddWait => exact of_stepDdWait hf
  case ddRbR1 => exact of_stepDdRbR1 hf
  case idle => exact .idle hf
  case psRead => exact .psRead hf
  case psAuth => exact .psAuth hf
  case erRead => exact .erRead hf
  case ddSelect => exact .ddSelect hf
  case ddBackoff => exact .ddBackoff hf
  case ddRbW1 => exact .ddRbW1 hf
  case ddRbW2 => exact .ddRbW2 hf
  case ddRbR2 => exact .ddRbR2 hf
  case ddDone => exact .ddDone hf
  case idPreLog => exact .idPreLog hf
  case idCmd => exact .idCmd hf
  case idPostLog => exact .idPostLog hf
  case idFields => exact .idFields hf
  case idDump => exact .idDump hf
  case idDone => exact .idDone hf

end BlockMove

/-! ### Steps, with the reasons of the host port's refusals -/

section
variable {s t : State} {rest : List HostAction}

/-- A host write runs a legal command, or is refused for a reason of rule R212. -/
theorem hostWrite_moves {a : Nat} {v : Word} (hh : s.host = .write a v :: rest)
    (h : hostWrite a v (popHost s) = .next t) :
    (∃ i, a = 0x000 ∧ decodeHost v = .ok i ∧ exec i (popHost s) = .next t) ∨
      ∃ r, refusalCondition r s ∧ t = refuse r (popHost s) := by
  unfold hostWrite at h
  split at h
  case isTrue ha =>
    subst ha
    obtain ⟨i, hi, hc⟩ | ⟨e, he, hc⟩ := hostCommand_cases v (popHost s) <;> rw [hc] at h
    · exact .inl ⟨i, rfl, hi, h⟩
    · obtain ⟨hf, ha⟩ | ⟨hf, ha⟩ := accept_cases (refuse .illegalCommand) (popHost s) <;> rw [ha] at h <;> cases h
      · exact .inr ⟨.illegalCommand, ⟨v, rest, hh, hf, decodeHost_illegal he⟩, rfl⟩
      · exact .inr ⟨.commandWhileActive, ⟨v, rest, hh, hf⟩, rfl⟩
  case isFalse ha =>
    cases h
    exact .inr ⟨.hostWriteNotCmd, ⟨a, v, rest, hh, ha⟩, rfl⟩

/-- What a step can do (`step_cases`), with the reason of every refusal the host port makes, and the reset input named. -/
theorem step_moves (h : step s = .next t) :
    (∃ u, (u = s ∨ u = popHost s) ∧ BlockMove u t) ∨
      (∃ w i rest, s.host = .write 0x000 w :: rest ∧ decodeHost w = .ok i ∧ exec i (popHost s) = .next t) ∨
      (∃ r, refusalCondition r s ∧ t = refuse r (popHost s)) ∨
      (∃ a v, t = { popHost s with hostLog := (a, v) :: s.hostLog }) ∨
      t = popHost s ∨ ((∃ rest, s.host = .reset :: rest) ∧ t = assertReset (popHost s)) := by
  cases hh : s.host with
  | nil => exact .inl ⟨s, .inl rfl, .of_blockStep (step_nil hh ▸ h)⟩
  | cons action rest =>
    cases action with
    | write a v =>
      rw [step_write hh] at h
      obtain ⟨i, rfl, hi, he⟩ | hr := hostWrite_moves hh h
      · exact .inr (.inl ⟨v, i, rest, rfl, hi, he⟩)
      · exact .inr (.inr (.inl hr))
    | read a =>
      rw [step_read hh] at h
      cases h
      obtain ⟨v, -, hr⟩ | ⟨hn, hr⟩ := hostRead_cases a (popHost s)
      · exact .inr (.inr (.inr (.inl ⟨a, v, hr⟩)))
      · exact .inr (.inr (.inl ⟨.hostReadUnmapped, ⟨a, rest, hh, hn⟩, hr⟩))
    | waitIdle =>
      rw [step_waitIdle hh] at h
      split at h
      · exact .inl ⟨s, .inl rfl, .of_blockStep h⟩
      · cases h
        exact .inr (.inr (.inr (.inr (.inl rfl))))
    | pass => exact .inl ⟨_, .inr rfl, .of_blockStep (step_pass hh ▸ h)⟩
    | reset =>
      rw [step_reset hh] at h
      cases h
      exact .inr (.inr (.inr (.inr (.inr ⟨⟨rest, rfl⟩, rfl⟩))))

end

end Sys2Proof.Machine
end

section
/-! SUPPORT. The invariant, stated for each state of `s.fsm` (the ranges of the counters, and beside them what holds in that
state), and that every step keeps it. -/

namespace Sys2Proof.Machine

/-! ### The invariant, state by state -/

/-- The clauses of the invariant that hold whatever `s.fsm` is. -/
structure State.Ranges (s : State) : Prop where
  params_wf : s.params.wf = true
  psCount_le : s.psCount ≤ s.params.nDiscard
  erI_le : s.erI ≤ 8
  budget_eq : s.budget = budgetOf s.selDrive
  attempts_le : s.attempts ≤ 5
  xferK_le : s.xferK ≤ 256

/-- What holds in `IDLE` and while POLL_STATUS or REPORT_ERROR runs (rule R32). -/
def State.Resting (s : State) (op : Op) : Prop := s.op = op ∧ s.detected = s.detectOk

/-- What holds while DETECT_DRIVE runs (rules R31, R140). -/
def State.Detecting (s : State) : Prop :=
  s.op = .detectDrive ∧ s.attempts ≤ s.budget ∧ s.detected = false ∧ s.identValid = false

/-- What holds while IDENTIFY_DEVICE runs (rules R32, R170). -/
def State.Identifying (s : State) : Prop := s.op = .identifyDevice ∧ s.detected = true ∧ s.detectOk = true

/-- What the caller of a PollStatus relies on while it runs (rule R104). -/
def State.PollFor (s : State) : PsCtx → Prop
  | .host => s.Resting .pollStatus
  | .detect => s.Detecting ∧ 1 ≤ s.attempts
  | .idPre | .idPost => s.Identifying ∧ s.identValid = false

/-- What the caller of an ErrorReport relies on while it runs (rule R121). -/
def State.ReportFor (s : State) : ErCtx → Prop
  | .host => s.Resting .reportError
  | .ident => s.Identifying ∧ s.identValid = false

/-- What holds while an ErrorReport runs (rule R126). -/
def State.Reporting (s : State) : Prop := s.ReportFor s.erCtx ∧ s.classValid = true ∧ s.lastClass = .error

/-- What holds after the last word of a transfer (rules R175, R176). -/
def State.Identified (s : State) : Prop := s.Identifying ∧ s.identValid = true ∧ s.xferK = 256

/-- The assertion of each state of the block. -/
def State.At (s : State) : Fsm → Prop
  | .idle => s.Resting .none
  | .psRead => s.PollFor s.psCtx ∧ s.psCount < s.params.nDiscard
  | .psSettle => s.PollFor s.psCtx
  | .psAuth => s.PollFor s.psCtx ∧ s.psCount = s.params.nDiscard
  | .psDone => s.PollFor s.psCtx ∧ s.classValid = true
  | .erRead | .erDone => s.Reporting
  | .erEmit => s.Reporting ∧ (s.errFlags = 0#8 ∨ nextErrorBit s.errFlags s.erI ≠ none)
  | .ddSelect => s.Detecting ∧ s.attempts < s.budget
  | .ddEval | .ddBackoff | .ddWait | .ddRbW1 | .ddRbR1 | .ddRbW2 | .ddRbR2 | .ddDone => s.Detecting ∧ 1 ≤ s.attempts
  | .idPreLog | .idCmd | .idPostLog => s.Identifying ∧ s.identValid = false
  | .idXfer => (s.Identifying ∧ s.identValid = false) ∧ s.xferK < 256
  | .idFields => s.Identified ∧ s.lastClass ≠ .error
  | .idDump | .idDone => s.Identified

section
variable {s : State} {f : Fsm}

theorem State.Inv.ranges (h : s.Inv) : s.Ranges := { h with }

theorem State.Inv.resting (h : s.Inv) {op : Op} (hop : s.op = op) (hd : op ≠ .detectDrive) : s.Resting op :=
  ⟨hop, h.detected_eq (hop ▸ hd)⟩

theorem State.Inv.detecting (h : s.Inv) (hop : s.op = .detectDrive) : s.Detecting :=
  ⟨hop, h.attempts_budget hop, h.detect_clears hop⟩

theorem State.Inv.detecting_pos (h : s.Inv) (hop : s.op = .detectDrive) (hf : s.fsm ≠ .ddSelect) :
    s.Detecting ∧ 1 ≤ s.attempts :=
  ⟨h.detecting hop, h.attempts_pos hop hf⟩

theorem State.Inv.identifying (h : s.Inv) (hop : s.op = .identifyDevice) : s.Identifying :=
  have hd := h.identify_detected hop
  ⟨hop, hd, h.detected_eq (by simp [hop]) ▸ hd⟩

theorem State.Inv.identifying_invalid (h : s.Inv) (hop : s.op = .identifyDevice) (hf : s.fsm.afterTransfer = false) :
    s.Identifying ∧ s.identValid = false :=
  ⟨h.identifying hop, (h.identify_valid hop).trans hf⟩

theorem State.Inv.identified (h : s.Inv) (hop : s.op = .identifyDevice) (hf : s.fsm.afterTransfer = true) : s.Identified :=
  ⟨h.identifying hop, (h.identify_valid hop).trans hf, h.xferK_done hf⟩

theorem State.Inv.pollFor (h : s.Inv) (hop : s.op = opOf .psRead s.psCtx s.erCtx) (hf : s.fsm ≠ .ddSelect)
    (ht : s.fsm.afterTransfer = false) : s.PollFor s.psCtx := by
  cases hc : s.psCtx <;> rw [hc] at hop
  case host => exact h.resting hop (by decide)
  case detect => exact h.detecting_pos hop hf
  case idPre | idPost => exact h.identifying_invalid hop ht

theorem State.Inv.reporting (h : s.Inv) (hop : s.op = opOf .erRead s.psCtx s.erCtx) (hf : s.fsm.inErrorReport = true)
    (ht : s.fsm.afterTransfer = false) : s.Reporting := by
  refine ⟨?_, h.error_class hf⟩
  cases hc : s.erCtx <;> rw [hc] at hop
  case host => exact h.resting hop (by decide)
  case ident => exact h.identifying_invalid hop ht

/-- The invariant gives each state of the block its assertion. -/
theorem State.Inv.at (h : s.Inv) (hf : s.fsm = f) : s.At f := by
  have hop := h.op_eq
  have hpoll := h.pollFor
  have hrep := h.reporting
  have hdet := h.detecting_pos
  have hid := h.identifying_invalid
  have hdone := h.identified
  rw [hf] at hop hpoll hrep hdet hid hdone
  cases f
  case idle => exact h.resting hop (by decide)
  case psRead => exact ⟨hpoll hop (by decide) rfl, h.psCount_read hf⟩
  case psSettle => exact hpoll hop (by decide) rfl
  case psAuth => exact ⟨hpoll hop (by decide) rfl, h.psCount_auth hf⟩
  case psDone => exact ⟨hpoll hop (by decide) rfl, h.done_valid hf⟩
  case erRead | erDone => exact hrep hop rfl rfl
  case erEmit => exact ⟨hrep hop rfl rfl, h.erEmit_bit hf⟩
  case ddSelect => exact ⟨h.detecting hop, h.attempts_select hf⟩
  case idPreLog | idCmd | idPostLog => exact hid hop rfl
  case idXfer => exact ⟨hid hop rfl, h.xferK_lt hf⟩
  case idFields => exact ⟨hdone hop rfl, h.fields_class hf⟩
  case idDump | idDone => exact hdone hop rfl
  all_goals exact hdet hop (by decide)

theorem State.Inv.pollDone (h : s.Inv) (hf : s.fsm = .psDone) {c : PsCtx} (hc : s.psCtx = c) : s.PollFor c :=
  hc ▸ (h.at hf).1

/-- What the assertion of a state says of the operation that runs. -/
def State.Running (s : State) (f : Fsm) : Prop :=
  match opOf f s.psCtx s.erCtx with
  | .detectDrive => s.Detecting ∧ (f ≠ .ddSelect → 1 ≤ s.attempts)
  | .identifyDevice => s.Identifying ∧ s.identValid = f.afterTransfer
  | op => s.Resting op

theorem State.At.running (h : s.At f) : s.Running f := by
  unfold State.Running
  cases f
  case psRead | psSettle | psAuth | psDone =>
    cases hc : s.psCtx <;> simp only [State.At, State.PollFor, hc] at h <;> simp [opOf, Fsm.afterTransfer, h]
  case erRead | erEmit | erDone =>
    cases hc : s.erCtx <;> simp only [State.At, State.Reporting, State.ReportFor, hc] at h <;>
      simp [opOf, Fsm.afterTransfer, h]
  all_goals
    simp only [State.At, State.Identified] at h
    simp [opOf, Fsm.afterTransfer, h]

theorem State.Running.op_eq (h : s.Running f) : s.op = opOf f s.psCtx s.erCtx := by
  unfold State.Running at h
  split at h
  · exact h.1.1.trans (Eq.symm ‹_›)
  · exact h.1.1.trans (Eq.symm ‹_›)
  · exact h.1

/-- The ranges and the assertion of its state make a state's invariant. -/
theorem State.Ranges.inv (hr : s.Ranges) (h : s.At s.fsm) : s.Inv := by
  have hat : ∀ {f}, s.fsm = f → s.At f := fun hf => hf ▸ h
  have hrun := h.running
  have hop := hrun.op_eq
  rw [State.Running, ← hop] at hrun
  have hdet : s.op = .detectDrive → s.Detecting ∧ (s.fsm ≠ .ddSelect → 1 ≤ s.attempts) := fun ho => by rwa [ho] at hrun
  have hid : s.op = .identifyDevice → s.Identifying ∧ s.identValid = s.fsm.afterTransfer := fun ho => by rwa [ho] at hrun
  exact
  { hr with
    op_eq := hop
    psCount_read := fun hf => (hat hf).2
    psCount_auth := fun hf => (hat hf).2
    erEmit_bit := fun hf => (hat hf).2
    error_class := fun hf => by
      obtain hf | hf | hf := of_decide_eq_true hf
      exacts [(hat hf).2, (hat hf).1.2, (hat hf).2]
    done_valid := fun hf => (hat hf).2
    attempts_budget := fun ho => (hdet ho).1.2.1
    attempts_select := fun hf => (hat hf).2
    attempts_pos := fun ho => (hdet ho).2
    detect_clears := fun ho => (hdet ho).1.2.2
    detected_eq := fun ho => by
      cases hop' : s.op <;> rw [hop'] at hrun
      case detectDrive => exact absurd hop' ho
      case identifyDevice => exact hrun.1.2.1.trans hrun.1.2.2.symm
      all_goals exact hrun.2
    identify_detected := fun ho => (hid ho).1.2.1
    identify_valid := fun ho => (hid ho).2
    xferK_lt := fun hf => (hat hf).2
    xferK_done := fun hf => by
      obtain hf | hf | hf := of_decide_eq_true hf
      exacts [(hat hf).1.2.2, (hat hf).2.2, (hat hf).2.2]
    fields_class := fun hf => (hat hf).2 }

/-! ### The block's own steps -/

theorem budgetOf_le (d : BitVec 1) : budgetOf d ≤ 5 := by
  unfold budgetOf
  split <;> omega

theorem budgetOf_pos (d : BitVec 1) : 0 < budgetOf d := by
  unfold budgetOf
  split <;> omega

theorem State.Ranges.budget_le (hr : s.Ranges) : s.budget ≤ 5 := hr.budget_eq ▸ budgetOf_le _

/-- A PollStatus makes at least one discard read (rule R7). -/
theorem State.Ranges.nDiscard_pos (hr : s.Ranges) : 0 < s.params.nDiscard := by
  have h := hr.params_wf
  simp only [Params.wf, Bool.and_eq_true, decide_eq_true_eq] at h
  omega

theorem mem_errorBits (i : Fin 8) : i ∈ errorBits := by
  revert i
  decide

/-- An error byte other than 0 has a first set bit (rule R122). -/
theorem nextErrorBit_zero_ne_none {e : Byte} (he : e ≠ 0#8) : nextErrorBit e 0 ≠ none := by
  intro hn
  refine he (BitVec.eq_of_getLsbD_eq fun i hi => ?_)
  have hb := List.find?_eq_none.mp hn ⟨i, hi⟩ (mem_errorBits _)
  simpa using hb

namespace BlockMove

variable {t : State}

/-- A step of the block keeps the counters in their ranges. -/
theorem ranges (hm : BlockMove s t) (h : s.Inv) : t.Ranges := by
  have hr := h.ranges
  cases hm
  case psRead hf => exact { hr with psCount_le := (h.at hf).2 }
  case psDone_postAgain | idPreLog | idCmd | idPostLog => exact { hr with psCount_le := Nat.zero_le _ }
  case psDone_postOther | erDone_ident => exact { hr with xferK_le := Nat.zero_le _ }
  case erRead => exact { hr with erI_le := Nat.zero_le _ }
  case erEmit_more j _ _ _ _ | erEmit_last j _ _ _ _ => exact { hr with erI_le := j.isLt }
  case ddSelect hf =>
    exact { hr with psCount_le := Nat.zero_le _, attempts_le := le_trans (h.at hf).2 hr.budget_le }
  case idXfer_more hf _ | idXfer_error hf _ _ | idXfer_good hf _ _ => exact { hr with xferK_le := (h.at hf).2 }
  all_goals exact { hr with }

/-- A step of the block leads from the assertion of its state to the assertion of the next one. -/
theorem at_next (hm : BlockMove s t) (h : s.Inv) : t.At t.fsm := by
  have hr := h.ranges
  cases hm
  case idle => exact h.at rfl
  case psRead hf => exact (h.at hf).1
  case psSettle_again hf hn => exact ⟨h.at hf, hn⟩
  case psSettle_last hf hn => exact ⟨h.at hf, le_antisymm hr.psCount_le hn⟩
  case psAuth hf => exact ⟨(h.at hf).1, rfl⟩
  case psDone_host hf hc => exact ⟨rfl, (h.pollDone hf hc).2⟩
  case psDone_detect hf hc => exact h.pollDone hf hc
  case psDone_preBusy hf hc _ | psDone_preOther hf hc _ | psDone_postLog hf hc _ _ => exact h.pollDone hf hc
  case psDone_postAgain hf hc _ _ => exact ⟨h.pollDone hf hc, hr.nDiscard_pos⟩
  case psDone_postError hf hc hl => exact ⟨h.pollDone hf hc, (h.at hf).2, hl⟩
  case psDone_postOther hf hc _ _ => exact ⟨h.pollDone hf hc, Nat.zero_lt_succ _⟩
  case erRead hf => exact ⟨h.at hf, or_iff_not_imp_left.mpr nextErrorBit_zero_ne_none⟩
  case erEmit_none hf _ => exact (h.at hf).1
  case erEmit_more j hf _ _ hn => exact ⟨(h.at hf).1, .inr hn⟩
  case erEmit_last j hf _ _ _ => exact (h.at hf).1
  case erDone_host hf hc => exact ⟨rfl, (hc ▸ (h.at hf).1 : s.ReportFor .host).2⟩
  case erDone_ident hf hc => exact ⟨(hc ▸ (h.at hf).1 : s.ReportFor .ident), Nat.zero_lt_succ _⟩
  case ddSelect hf =>
    obtain ⟨⟨hop, -, hclear⟩, hlt⟩ := h.at hf
    exact ⟨⟨⟨hop, hlt, hclear⟩, Nat.succ_pos _⟩, hr.nDiscard_pos⟩
  case ddWait_retry hf _ ha => exact ⟨(h.at hf).1, ha⟩
  case ddWait_goesOn | ddWait_forever => exact h.at rfl
  case ddDone hf => exact ⟨rfl, rfl⟩
  case idPreLog hf | idCmd hf | idPostLog hf => exact ⟨h.at hf, hr.nDiscard_pos⟩
  case idXfer_more hf hk => exact ⟨(h.at hf).1, hk⟩
  case idXfer_error hf hk _ => exact ⟨(h.at hf).1.1, rfl, hk⟩
  case idXfer_good hf hk hl => exact ⟨⟨(h.at hf).1.1, rfl, hk⟩, hl⟩
  case idFields hf => exact (h.at hf).1
  case idDone hf =>
    obtain ⟨⟨-, hd, hok⟩, -⟩ := h.at hf
    exact ⟨rfl, hd.trans hok.symm⟩
  all_goals exact h.at ‹_›

/-- Every step of the block keeps the invariant. -/
theorem inv (hm : BlockMove s t) (h : s.Inv) : t.Inv := (hm.ranges h).inv (hm.at_next h)

end BlockMove

/-! ### What the outside does -/

theorem State.Inv.popHost (h : s.Inv) : (popHost s).Inv := { h with }

theorem State.Inv.refuse (h : s.Inv) (r : RefuseReason) : (refuse r s).Inv := { h with }

/-- The reset input leads to the invariant from every state whose parameters are in their ranges: the budget is the selected
drive's by the values of log entry 6. -/
theorem assertReset_inv (hw : s.params.wf = true) : (assertReset s).Inv :=
  State.Ranges.inv
    { params_wf := hw
      psCount_le := Nat.zero_le _
      erI_le := Nat.zero_le _
      budget_eq := rfl
      attempts_le := Nat.zero_le _
      xferK_le := Nat.zero_le _ }
    ⟨rfl, rfl⟩

/-- A host command keeps the invariant, whether it is accepted or refused. -/
theorem exec_inv {i : Instr} {t : State} (hi : i ≠ .ataIdentifyDevice) (h : s.Inv) (he : exec i s = .next t) : t.Inv := by
  have hr := h.ranges
  obtain ⟨-, rfl⟩ | ⟨hf, hcase⟩ := exec_cases hi he
  · exact h.refuse _
  obtain ⟨-, hres⟩ := h.at hf
  obtain ⟨-, rfl⟩ | ⟨-, hv, hl, rfl⟩ | ⟨-, -, rfl⟩ | ⟨driveIndex, -, rfl⟩ | ⟨-, hd, rfl⟩ | ⟨-, -, rfl⟩ := hcase
  · exact State.Ranges.inv { hr with psCount_le := Nat.zero_le _ } ⟨⟨rfl, hres⟩, hr.nDiscard_pos⟩
  · exact State.Ranges.inv { hr with } ⟨⟨rfl, hres⟩, hv, hl⟩
  · exact h.refuse _
  · exact State.Ranges.inv { hr with budget_eq := rfl, attempts_le := Nat.zero_le _ }
      ⟨⟨rfl, Nat.zero_le _, rfl, rfl⟩, budgetOf_pos _⟩
  · exact State.Ranges.inv { hr with psCount_le := Nat.zero_le _, xferK_le := Nat.zero_le _ }
      ⟨⟨⟨rfl, hd, hres.symm.trans hd⟩, rfl⟩, hr.nDiscard_pos⟩
  · exact h.refuse _

end

/-- Settles O57: the state after reset is what the reset input makes of it, and the opaque settle time is in its range. -/
theorem resetMeetsTheInvariant : Obligations.ResetMeetsTheInvariant :=
  assertReset_inv (s := State.reset) (by simp [State.reset, Params.initial, Params.wf, nDiscardDefault])

/-- Settles O58: the block's own moves lead from the assertion of one state to that of the next (`BlockMove.inv`), an accepted
command enters its operation with the assertion of its first state, and everything else the outside does leaves the
invariant's registers alone or resets them. -/
theorem everyStepKeepsTheInvariant : Obligations.EveryStepKeepsTheInvariant := by
  intro s t h hs
  obtain ⟨u, rfl | rfl, hm⟩ | ⟨w, i, -, -, hw, he⟩ | ⟨r, -, rfl⟩ | ⟨a, v, rfl⟩ | rfl | ⟨-, rfl⟩ := step_moves hs
  · exact hm.inv h
  · exact hm.inv h.popHost
  · exact exec_inv (fun hi => decodeHost_ne_ata w (hi ▸ hw)) h.popHost he
  · exact h.popHost.refuse r
  · exact { h with }
  · exact h.popHost
  · exact assertReset_inv h.params_wf

end Sys2Proof.Machine
end

section
/-! SUPPORT. What no move of the block touches: the parameters, which nothing changes (rule R40), and the refusal mark, which
only the reasons of rule R212 set (rules R35, R211). -/

namespace Sys2Proof.Machine

/-! ### The parameters -/

section
variable {s t : State}

theorem BlockMove.params_eq (hm : BlockMove s t) : t.params = s.params := by
  cases hm <;> rfl

theorem exec_params {i : Instr} (hi : i ≠ .ataIdentifyDevice) (h : exec i s = .next t) : t.params = s.params := by
  obtain ⟨-, rfl⟩ | ⟨-, ⟨-, rfl⟩ | ⟨-, -, -, rfl⟩ | ⟨-, -, rfl⟩ | ⟨_, -, rfl⟩ | ⟨-, -, rfl⟩ | ⟨-, -, rfl⟩⟩ :=
    exec_cases hi h <;> rfl

end

/-- Settles O54: no move of the block, no command and no host action touches the parameters, and the reset input keeps
them. -/
theorem parametersNeverChange : Obligations.ParametersNeverChange := by
  intro s t h
  obtain ⟨u, rfl | rfl, hm⟩ | ⟨w, i, -, -, hw, he⟩ | ⟨r, -, rfl⟩ | ⟨_, _, rfl⟩ | rfl | ⟨-, rfl⟩ := step_moves h
  · exact hm.params_eq
  · exact hm.params_eq
  · exact (exec_params (fun hi => decodeHost_ne_ata w (hi ▸ hw)) he).trans (popHost_params s)
  all_goals rfl

/-! ### The refusal mark -/

section
variable {s t : State}

theorem BlockMove.refused_eq (hm : BlockMove s t) : t.refused = s.refused := by
  cases hm <;> rfl

/-- A host command changes the refusal mark only when a row of rule R212 holds for it. -/
theorem exec_refused {w : Word} {i : Instr} {rest : List HostAction} (hh : s.host = .write 0x000 w :: rest)
    (hw : decodeHost w = .ok i) (he : exec i (popHost s) = .next t) :
    t.refused = s.refused ∨ (t.refused = true ∧ ∃ r, refusalCondition r s) := by
  have hi : i ≠ .ataIdentifyDevice := fun hi => decodeHost_ne_ata w (hi ▸ hw)
  obtain ⟨hf, rfl⟩ | ⟨hf, hcase⟩ := exec_cases hi he
  · exact .inr ⟨rfl, .commandWhileActive, w, rest, hh, hf⟩
  obtain ⟨-, rfl⟩ | ⟨-, -, -, rfl⟩ | ⟨rfl, hpre, rfl⟩ | ⟨_, -, rfl⟩ | ⟨-, -, rfl⟩ | ⟨rfl, hd, rfl⟩ := hcase
  · exact .inl rfl
  · exact .inl rfl
  · exact .inr ⟨rfl, .reportErrorWithoutError, rest, decodeHost_reportError hw ▸ hh, hf, hpre⟩
  · exact .inl rfl
  · exact .inl rfl
  · exact .inr ⟨rfl, .identifyWithoutDetect, rest, decodeHost_identifyDevice hw ▸ hh, hf, hd⟩

/-- A step leaves the refusal mark, or sets it for a reason of rule R212. -/
theorem step_refused (h : step s = .next t) :
    t.refused = s.refused ∨ (t.refused = true ∧ ∃ r, refusalCondition r s) := by
  obtain ⟨u, rfl | rfl, hm⟩ | ⟨w, i, rest, hh, hw, he⟩ | ⟨r, hr, rfl⟩ | ⟨_, _, rfl⟩ | rfl | ⟨-, rfl⟩ := step_moves h
  · exact .inl hm.refused_eq
  · exact .inl hm.refused_eq
  · exact exec_refused hh hw he
  · exact .inr ⟨rfl, r, hr⟩
  all_goals exact .inl rfl

end

/-- CSR shows the refusal mark in bit 1 (rule R75). -/
theorem csr_refused (s : State) : (csr s).getLsbD 1 = s.refused := by
  simp [csr, flag_getElem, field_getElem]

/-- Settles O11: a step leaves the mark or sets it for a reason of rule R212 (`step_refused`), and CSR bit 1 is the mark. -/
theorem refusalMarkIsSticky : Obligations.RefusalMarkIsSticky := by
  refine ⟨fun s t h hs => ?_, fun s t h hs ht => ?_, csr_refused⟩
  · obtain he | ⟨ht, -⟩ := step_refused h
    · exact he.trans hs
    · exact ht
  · obtain he | ⟨-, hr⟩ := step_refused h
    · exact absurd (ht.symm.trans (he.trans hs)) (by decide)
    · exact hr

end Sys2Proof.Machine
end

section
/-! SUPPORT. Which states of the block write which result register, and which of them write none (rules R27 to R34, R36). -/

namespace Sys2Proof.Machine

/-- The result registers of a state, with `s.budget` and the identify buffer. -/
def State.results (s : State) :=
  (s.rawStatus, s.lastClass, s.classValid, s.errFlags, s.errValid, s.selDrive, s.budget, s.attempts, s.detectOk,
    s.detected, s.identW, s.xferK, s.identValid)

/-- The change from `s` to `t` in the result registers is one that a state of the block is allowed (rules R27 to R34). -/
structure AllowedWrites (s t : State) : Prop where
  classification : t.rawStatus ≠ s.rawStatus ∨ t.lastClass ≠ s.lastClass ∨ t.classValid ≠ s.classValid → s.fsm = .psAuth
  errFlags : t.errFlags ≠ s.errFlags → s.fsm = .erRead
  errValid : t.errValid ≠ s.errValid → s.fsm = .erRead ∨ (s.fsm = .idle ∧ t.op = .identifyDevice)
  drive : t.selDrive ≠ s.selDrive ∨ t.budget ≠ s.budget → s.fsm = .idle ∧ t.op = .detectDrive
  attempts : t.attempts ≠ s.attempts →
    (s.fsm = .idle ∧ t.op = .detectDrive ∧ t.attempts = 0) ∨ (s.fsm = .ddSelect ∧ t.attempts = s.attempts + 1)
  detectOk_set : s.detectOk = false → t.detectOk = true → s.fsm = .ddRbR2 ∧ readByte .cylLow s = 0x34#8
  detectOk_clear : s.detectOk = true → t.detectOk = false →
    (s.fsm = .idle ∧ t.op = .detectDrive) ∨
    (s.fsm = .ddEval ∧ s.lastClass ≠ .notReady ∧ s.lastClass ≠ .ready) ∨
    (s.fsm = .ddWait ∧ s.delayLeft = some 0 ∧ s.budget ≤ s.attempts) ∨
    (s.fsm = .ddRbR1 ∧ readByte .cylLow s ≠ 0x12#8) ∨ (s.fsm = .ddRbR2 ∧ readByte .cylLow s ≠ 0x34#8)
  identW : t.identW ≠ s.identW → s.fsm = .idXfer
  identW_word : ∀ k, wordAt t.identW k ≠ wordAt s.identW k → k = s.xferK
  detected_set : s.detected = false → t.detected = true → s.fsm = .ddDone ∧ s.detectOk = true
  detected_clear : s.detected = true → t.detected = false →
    (s.fsm = .idle ∧ t.op = .detectDrive) ∨ (s.fsm = .ddDone ∧ s.detectOk = false)
  xferK : t.xferK ≠ s.xferK →
    (s.fsm = .idXfer ∧ t.xferK = s.xferK + 1) ∨
    (t.xferK = 0 ∧ ((s.fsm = .idle ∧ t.op = .identifyDevice) ∨ (s.fsm = .psDone ∧ s.psCtx = .idPost) ∨
      (s.fsm = .erDone ∧ s.erCtx = .ident)))
  identValid_set : s.identValid = false → t.identValid = true → s.fsm = .idXfer ∧ t.xferK = 256
  identValid_clear : s.identValid = true → t.identValid = false →
    s.fsm = .idle ∧ (t.op = .detectDrive ∨ t.op = .identifyDevice)

namespace AllowedWrites

variable {s t : State}

/-- A step that writes no result register is allowed. -/
theorem of_results (h : t.results = s.results) : AllowedWrites s t := by
  simp only [State.results, Prod.mk.injEq] at h
  obtain ⟨h1, h2, h3, h4, h5, h6, h7, h8, h9, h10, h11, h12, h13⟩ := h
  constructor <;> simp_all

theorem refl (s : State) : AllowedWrites s s := of_results rfl

theorem of_popHost (h : AllowedWrites (popHost s) t) : AllowedWrites s t := { h with }

/-- The start of a transfer sets `s.xfer_k` to 0 (rules R173, R174). -/
theorem of_startTransfer (hf : (s.fsm = .psDone ∧ s.psCtx = .idPost) ∨ (s.fsm = .erDone ∧ s.erCtx = .ident)) :
    AllowedWrites s (startTransfer s) :=
  { refl s with
    xferK := fun _ => .inr ⟨rfl, .inr hf⟩
    identValid_set := fun h0 h1 => nomatch h0.symm.trans h1 }

/-- The transfer writes the buffer at word `s.xfer_k` only, and moves the counter by one (rules R33, R175). -/
theorem of_storeWord (hf : s.fsm = .idXfer) : AllowedWrites s (storeWord s) :=
  { refl s with
    identW := fun _ => hf
    identW_word := fun k hk => by
      by_contra hne
      exact hk (wordAt_set_other s.identW _ hne)
    xferK := fun _ => .inl ⟨hf, rfl⟩
    identValid_set := fun h0 h1 => nomatch h0.symm.trans h1 }

/-- The last word of the transfer makes the buffer valid (rule R175). -/
theorem of_lastWord (f : Fsm) (hf : s.fsm = .idXfer) (hk : s.xferK + 1 = 256) :
    AllowedWrites s (goto f { storeWord s with identValid := true }) :=
  { of_storeWord hf with
    identValid_set := fun _ _ => ⟨hf, hk⟩
    identValid_clear := nofun }


theorem of_blockMove (hm : BlockMove s t) : AllowedWrites s t := by
  cases hm
  case psAuth hf => exact { refl s with classification := fun _ => hf }
  case psDone_postOther hf hc _ _ => exact of_startTransfer (.inl ⟨hf, hc⟩)
  case erRead hf => exact { refl s with errFlags := fun _ => hf, errValid := fun _ => .inl hf }
  case erDone_ident hf hc => exact of_startTransfer (.inr ⟨hf, hc⟩)
  case ddSelect hf => exact { refl s with attempts := fun _ => .inr ⟨hf, rfl⟩ }
  case ddEval_fails hf hn hr =>
    exact { refl s with detectOk_set := nofun, detectOk_clear := fun _ _ => .inr (.inl ⟨hf, hn, hr⟩) }
  case ddWait_fails hf hd ha =>
    exact { refl s with detectOk_set := nofun, detectOk_clear := fun _ _ => .inr (.inr (.inl ⟨hf, hd, ha⟩)) }
  case ddRbR1_fails hf hb =>
    exact { refl s with detectOk_set := nofun, detectOk_clear := fun _ _ => .inr (.inr (.inr (.inl ⟨hf, hb⟩))) }
  case ddRbR2 hf =>
    exact
    { refl s with
      detectOk_set := fun _ ht => ⟨hf, of_decide_eq_true ht⟩
      detectOk_clear := fun _ ht => .inr (.inr (.inr (.inr ⟨hf, of_decide_eq_false ht⟩))) }
  case ddDone hf =>
    have hfin : AllowedWrites s (finish s) := of_results rfl
    exact { hfin with detected_set := fun _ ht => ⟨hf, ht⟩, detected_clear := fun _ ht => .inr ⟨hf, ht⟩ }
  case idXfer_more hf _ => exact { of_storeWord hf with }
  case idXfer_error hf hk _ => exact of_lastWord _ hf hk
  case idXfer_good hf hk _ => exact of_lastWord _ hf hk
  all_goals exact of_results rfl

/-- Of the host commands, DETECT_DRIVE and IDENTIFY_DEVICE write result registers when they are accepted (rules R140, R170). -/
theorem of_exec {i : Instr} (hi : i ≠ .ataIdentifyDevice) (h : exec i s = .next t) : AllowedWrites s t := by
  have hop : ∀ op, AllowedWrites s { s with op } := fun _ => of_results rfl
  obtain ⟨-, rfl⟩ | ⟨hf, hcase⟩ := exec_cases hi h
  · exact of_results rfl
  obtain ⟨-, rfl⟩ | ⟨-, -, -, rfl⟩ | ⟨-, -, rfl⟩ | ⟨driveIndex, -, rfl⟩ | ⟨-, -, rfl⟩ | ⟨-, -, rfl⟩ := hcase
  · exact of_results rfl
  · exact of_results rfl
  · exact of_results rfl
  · exact
    { hop .detectDrive with
      drive := fun _ => ⟨hf, rfl⟩
      attempts := fun _ => .inl ⟨hf, rfl, rfl⟩
      detectOk_set := nofun
      detectOk_clear := fun _ _ => .inl ⟨hf, rfl⟩
      detected_set := nofun
      detected_clear := fun _ _ => .inl ⟨hf, rfl⟩
      identValid_set := nofun
      identValid_clear := fun _ _ => ⟨hf, .inl rfl⟩ }
  · exact
    { hop .identifyDevice with
      errValid := fun _ => .inr ⟨hf, rfl⟩
      xferK := fun _ => .inr ⟨rfl, .inl ⟨hf, rfl⟩⟩
      identValid_set := nofun
      identValid_clear := fun _ _ => ⟨hf, .inr rfl⟩ }
  · exact of_results rfl

/-- Every step but one that takes the reset input is allowed. -/
theorem of_step (h : step s = .next t) (hreset : ∀ rest, s.host ≠ .reset :: rest) : AllowedWrites s t := by
  obtain ⟨u, rfl | rfl, hm⟩ | ⟨w, i, -, -, hw, he⟩ | ⟨r, -, rfl⟩ | ⟨_, _, rfl⟩ | rfl | ⟨⟨rest, hh⟩, -⟩ := step_moves h
  · exact of_blockMove hm
  · exact of_popHost (of_blockMove hm)
  · exact of_popHost (of_exec (fun hi => decodeHost_ne_ata w (hi ▸ hw)) he)
  · exact of_results rfl
  · exact of_results rfl
  · exact of_results rfl
  · exact absurd hh (hreset rest)

end AllowedWrites

/-- Settles O53: every move of the block and every command is an allowed change (`AllowedWrites.of_step`), clause by clause. -/
theorem writersOfTheResultRegisters : Obligations.WritersOfTheResultRegisters := by
  intro s t h hreset
  obtain ⟨hclass, herr, herrv, hdrive, hatt, hset, hclear, hbuf, hword, hdset, hdclear, hk, hiset, hiclear⟩ :=
    AllowedWrites.of_step h hreset
  exact ⟨hclass, herr, herrv, hdrive, hatt, hset, hclear, hbuf, hword, hdset, hdclear, hk, hiset, hiclear⟩

end Sys2Proof.Machine
end

section
/-! SUPPORT. What the valid bits hide from the host (rules R39, R74, R75): a host read looks at a gated element only where its
valid bit is 1. -/

namespace Sys2Proof.Machine

/-- A gated value is the same where the values agree whenever the gate is open. -/
theorem gate_congr {w : Nat} {valid : Bool} {v v' : BitVec w} (h : valid = true → v = v') : gate valid v = gate valid v' := by
  cases valid
  · rfl
  · exact h rfl

/-- What two states that differ in hidden elements only have in common. -/
structure SameView (s t : State) : Prop where
  fsm : t.fsm = s.fsm
  refused : t.refused = s.refused
  params : t.params = s.params
  attempts : t.attempts = s.attempts
  detectOk : t.detectOk = s.detectOk
  classValid : t.classValid = s.classValid
  errValid : t.errValid = s.errValid
  detected : t.detected = s.detected
  identValid : t.identValid = s.identValid
  rawStatus : s.classValid = true → t.rawStatus = s.rawStatus
  lastClass : s.classValid = true → t.lastClass = s.lastClass
  errFlags : s.errValid = true → t.errFlags = s.errFlags
  selDrive : s.detected = true → t.selDrive = s.selDrive
  identW : s.identValid = true → t.identW = s.identW

theorem hiddenDiffer.sameView {s t : State} (h : hiddenDiffer s t) : SameView s t := by
  rw [hiddenDiffer] at h
  have hfield : ∀ {α : Type} (f : State → α), f t = f _ := fun f => congrArg f h
  exact
  { fsm := hfield State.fsm
    refused := hfield State.refused
    params := hfield State.params
    attempts := hfield State.attempts
    detectOk := hfield State.detectOk
    classValid := hfield State.classValid
    errValid := hfield State.errValid
    detected := hfield State.detected
    identValid := hfield State.identValid
    rawStatus := fun hv => (hfield State.rawStatus).trans (if_pos hv)
    lastClass := fun hv => (hfield State.lastClass).trans (if_pos hv)
    errFlags := fun hv => (hfield State.errFlags).trans (if_pos hv)
    selDrive := fun hv => (hfield State.selDrive).trans (if_pos hv)
    identW := fun hv => (hfield State.identW).trans (if_pos hv) }

namespace SameView

variable {s t : State}

theorem rawStatus_reg (h : SameView s t) :
    gate s.classValid (zext16 s.rawStatus) = gate t.classValid (zext16 t.rawStatus) := by
  rw [h.classValid]
  exact gate_congr fun hv => by rw [h.rawStatus hv]

theorem errFlags_reg (h : SameView s t) :
    gate s.errValid (zext16 s.errFlags) = gate t.errValid (zext16 t.errFlags) := by
  rw [h.errValid]
  exact gate_congr fun hv => by rw [h.errFlags hv]

theorem csr_eq (h : SameView s t) : csr s = csr t := by
  have hclass : gate s.classValid (statusCode s.lastClass) = gate s.classValid (statusCode t.lastClass) :=
    gate_congr fun hv => by rw [h.lastClass hv]
  have hzero : (s.errValid && decide (s.errFlags = 0#8)) = (s.errValid && decide (t.errFlags = 0#8)) := by
    cases hv : s.errValid
    · rfl
    · rw [h.errFlags hv]
  have hsel : gate s.detected s.selDrive = gate s.detected t.selDrive := gate_congr fun hv => (h.selDrive hv).symm
  simp only [csr, State.active, h.fsm, h.refused, h.classValid, h.detectOk, h.detected, h.errValid, h.identValid, h.attempts,
    hclass, hzero, hsel]

/-- The registers behind `s.ident_valid` look at the buffer and the parameters. -/
theorem identReg_congr (hw : t.identW = s.identW) (hp : t.params = s.params) (a : Nat) : identReg a s = identReg a t := by
  simp only [identReg, fFlags, hw, hp]

/-- Behind a closed gate, a register of the buffer reads 0 or is unmapped, whatever the buffer holds. -/
theorem identReg_closed (a : Nat) (s t : State) : (identReg a s).map (gate false) = (identReg a t).map (gate false) := by
  simp only [identReg, apply_ite (Option.map (gate false)), Option.map_some, Option.map_none, gate_false]

theorem identReg_gated (h : SameView s t) (a : Nat) :
    (identReg a s).map (gate s.identValid) = (identReg a t).map (gate t.identValid) := by
  rw [h.identValid]
  cases hv : s.identValid
  · exact identReg_closed a s t
  · rw [identReg_congr (h.identW hv) h.params]

theorem hostReg_eq (h : SameView s t) (a : Nat) : hostReg a s = hostReg a t := by
  simp only [hostReg, h.csr_eq, h.rawStatus_reg, h.errFlags_reg, h.identReg_gated a]

end SameView

/-- Settles O49: states that differ in hidden elements agree on every gate, and behind every open gate. -/
theorem hostNeverSeesHiddenState : Obligations.HostNeverSeesHiddenState := fun _ _ a h => h.sameView.hostReg_eq a

end Sys2Proof.Machine
end

section
/-! SUPPORT. The host port's accesses that run no command (rules R66, R212): a read of a mapped address, and a write elsewhere
than CMD. -/

namespace Sys2Proof.Machine

theorem popHost_eq {s : State} {action : HostAction} {rest : List HostAction} (h : s.host = action :: rest) :
    popHost s = { s with host := rest } := by
  rw [popHost, h, List.tail_cons]

theorem hostRead_mapped {s : State} {a : Nat} {v : Word} (h : hostReg a s = some v) :
    hostRead a s = { s with hostLog := (a, v) :: s.hostLog } := by
  rw [hostRead, h]

theorem hostWrite_notCmd {a : Nat} (h : a ≠ 0x000) (v : Word) (s : State) :
    hostWrite a v s = .next (refuse .hostWriteNotCmd s) := if_neg h

/-- Settles O8: a mapped read adds one entry to the host's log, and a write elsewhere than CMD is a refusal; both on the state
whose next host action is taken. -/
theorem hostReadHasNoEffect : Obligations.HostReadHasNoEffect := by
  refine ⟨fun s a v rest hh hv => ?_, fun s a v rest hh ha => ?_⟩
  · rw [step_read hh, hostRead_mapped ((hostReg_popHost a s).trans hv), popHost_eq hh]
  · rw [step_write hh, hostWrite_notCmd ha, popHost_eq hh]
    rfl

end Sys2Proof.Machine
end

section
/-! SUPPORT. The byte view of the identify buffer (rule R54), and which events a step can record: the device accesses of rule
R52's table, and the dump of the view. -/

namespace Sys2Proof.Machine

/-! ### The byte view -/

theorem byteView_length (w : Vector Word 256) : (byteView w).length = 512 := by
  simp [byteView]

theorem byteView_getElem? (w : Vector Word 256) {a : Nat} (ha : a < 512) : (byteView w)[a]? = some (byteAt w a) := by
  simp [byteView, ha]

theorem byteAt_even (w : Vector Word 256) (k : Nat) : byteAt w (2 * k) = lo8 (wordAt w k) := by
  simp [byteAt]

theorem byteAt_odd (w : Vector Word 256) (k : Nat) : byteAt w (2 * k + 1) = hi8 (wordAt w k) := by
  rw [byteAt, if_neg (by omega), show (2 * k + 1) / 2 = k by omega]

/-! ### The event of a step -/

section
variable {s t : State} {e : Event}

/-- A host command records nothing, or its refusal: an acceptance is no event (rules R211, R223). -/
theorem exec_trace {i : Instr} (hi : i ≠ .ataIdentifyDevice) (h : exec i s = .next t) :
    t.trace = s.trace ∨ ∃ r, t.trace = .refused r :: s.trace := by
  obtain ⟨-, rfl⟩ | ⟨-, ⟨-, rfl⟩ | ⟨-, -, -, rfl⟩ | ⟨-, -, rfl⟩ | ⟨_, -, rfl⟩ | ⟨-, -, rfl⟩ | ⟨-, -, rfl⟩⟩ :=
    exec_cases hi h
  · exact .inr ⟨_, rfl⟩
  · exact .inl rfl
  · exact .inl rfl
  · exact .inr ⟨_, rfl⟩
  · exact .inl rfl
  · exact .inl rfl
  · exact .inr ⟨_, rfl⟩

/-- An event of a step is a refusal, or is recorded by a move of the block: the host's reads, the ends of its waits and the
reset input record nothing. -/
theorem step_event (h : step s = .next t) (ht : t.trace = e :: s.trace) :
    (∃ r, e = .refused r) ∨ ∃ u, (u = s ∨ u = popHost s) ∧ BlockMove u t := by
  obtain hm | ⟨w, i, _, -, hw, he⟩ | ⟨r, -, rfl⟩ | ⟨_, _, rfl⟩ | rfl | ⟨-, rfl⟩ := step_moves h
  · exact .inr hm
  · obtain hs | ⟨r, hr⟩ := exec_trace (fun hi => decodeHost_ne_ata w (hi ▸ hw)) he
    · exact absurd (hs.symm.trans ht) (trace_ne_cons e _)
    · exact .inl ⟨r, List.head_eq_of_cons_eq (ht.symm.trans hr)⟩
  · exact .inl ⟨r, (List.head_eq_of_cons_eq ht).symm⟩
  all_goals exact absurd ht (trace_ne_cons e _)

/-- The select byte as it stands in the trace: rule R143 writes 0xA0 or 0xB0. -/
theorem zext16_selByte (d : BitVec 1) : zext16 (selByte d) = 0xA0#16 ∨ zext16 (selByte d) = 0xB0#16 := by
  revert d
  decide

/-- A move of the block accesses the device as rule R52's table allows in its state. The moves that record a device access
come first, then those that record another event; the rest record nothing. -/
theorem BlockMove.accessAllowed (hm : BlockMove s t) (ht : t.trace = e :: s.trace) : accessAllowed s.fsm e = true := by
  cases hm
  case psRead hf | psAuth hf | erRead hf | ddRbR1_match hf _ | ddRbR1_fails hf _ | ddRbR2 hf | idXfer_more hf _
      | idXfer_error hf _ _ | idXfer_good hf _ _ | ddRbW1 hf | ddRbW2 hf | idCmd hf =>
    cases ht
    rw [hf]
    rfl
  case ddSelect hf =>
    cases ht
    obtain hv | hv := zext16_selByte s.selDrive <;> rw [hf, hv] <;> rfl
  case psSettle_again | psSettle_last | erEmit_none | erEmit_more | erEmit_last | ddBackoff | ddWait_retry | ddWait_fails
      | idPreLog | idPostLog | idFields | idDump =>
    cases ht
    rfl
  all_goals exact absurd ht (trace_ne_cons e _)

/-- Only `ID_DUMP` emits a DumpRequest, and it hands over the view of the buffer (rule R176). -/
theorem BlockMove.dumpRequest_eq {bytes : List Byte} (hm : BlockMove s t)
    (ht : t.trace = .emit (.dumpRequest bytes) :: s.trace) : bytes = byteView s.identW := by
  cases hm
  case idDump => simpa using ht.symm
  all_goals simp at ht

end

/-- Settles O44: byte `a` of the view is `byteAt`, and a DumpRequest is no refusal, so a move of the block emits it. -/
theorem byteViewIsLowByteFirst : Obligations.ByteViewIsLowByteFirst := by
  refine ⟨fun w => ⟨byteView_length w, fun k hk => ⟨?_, ?_⟩⟩, fun s t bytes h ht => ?_⟩
  · rw [byteView_getElem? w (by omega), byteAt_even]
  · rw [byteView_getElem? w (by omega), byteAt_odd]
  · obtain ⟨r, hr⟩ | ⟨u, rfl | rfl, hm⟩ := step_event h ht
    · nomatch hr
    · exact hm.dumpRequest_eq ht
    · exact hm.dumpRequest_eq ht

/-- Settles O51: a refusal is no device access, and every move of the block keeps to the table. -/
theorem deviceAccessesAreThoseOfTheTable : Obligations.DeviceAccessesAreThoseOfTheTable := by
  intro s t e h ht
  obtain ⟨r, rfl⟩ | ⟨u, rfl | rfl, hm⟩ := step_event h ht
  · rfl
  · exact hm.accessAllowed ht
  · exact hm.accessAllowed ht

end Sys2Proof.Machine
end

section
/-! SUPPORT. The codes of the opcode table (rules R70 to R73, R83, R87): the fields of a host command word as numbers and in
an encoded word, that decoding and encoding undo each other, and the words the decoder refuses. -/

namespace Sys2Proof

/-! ### The fields of a host command word (rule R70) -/

theorem cmdOp_toNat (w : Word) : (cmdOp w).toNat = w.toNat % 16 := by
  simp [cmdOp]

theorem cmdRsv_toNat (w : Word) : (cmdRsv w).toNat = w.toNat / 16 % 16 := by
  simp [cmdRsv, Nat.shiftRight_eq_div_pow]

theorem cmdArg_toNat (w : Word) : (cmdArg w).toNat = w.toNat / 256 := by
  simp [cmdArg, Nat.shiftRight_eq_div_pow]
  omega

@[simp] theorem cmdOp_hostWord (op : BitVec 4) (arg : Byte) : cmdOp (hostWord op arg) = op :=
  BitVec.extractLsb'_append_eq_right

@[simp] theorem cmdRsv_hostWord (op : BitVec 4) (arg : Byte) : cmdRsv (hostWord op arg) = 0#4 := by
  rw [cmdRsv, hostWord, BitVec.extractLsb'_append_eq_of_le le_rfl]
  exact BitVec.extractLsb'_append_eq_right

@[simp] theorem cmdArg_hostWord (op : BitVec 4) (arg : Byte) : cmdArg (hostWord op arg) = arg := by
  rw [cmdArg, hostWord, BitVec.extractLsb'_append_eq_of_le (by decide)]
  exact BitVec.extractLsb'_append_eq_left

/-! ### Decoding and encoding undo each other -/

theorem decode_encode (i : Instr) : decode (encode i) = .ok i := by
  cases i with
  | ataIdentifyDevice => rfl
  | pollStatus | reportError | detectDrive | identifyDevice => simp [encode, decode, decodeHost, withoutArg]

/-- A host word that decodes is its instruction's word: the decoder has looked at all three fields. -/
theorem encode_of_decodeHost {w : Word} {i : Instr} (h : decodeHost w = .ok i) : encode i = .host w := by
  unfold decodeHost withoutArg at h
  split_ifs at h with hrsv hop harg hop harg hop hop harg <;> cases h
  · exact congrArg Code.host (word_eq_of_fields hrsv hop harg).symm
  · exact congrArg Code.host (word_eq_of_fields hrsv hop harg).symm
  · exact congrArg Code.host (word_eq_of_fields hrsv hop rfl).symm
  · exact congrArg Code.host (word_eq_of_fields hrsv hop harg).symm

theorem encode_of_decodeDevice {b : Byte} {i : Instr} (h : decodeDevice b = .ok i) : encode i = .device b := by
  unfold decodeDevice at h
  split_ifs at h with hb
  cases h
  rw [hb, encode]

/-- Settles O1: an encoded word's fields are those it was made of, and a word is made of its fields, so the decoder's checks fix
it. -/
theorem decodeAndEncodeAgree : Obligations.DecodeAndEncodeAgree := by
  refine ⟨fun i _ => decode_encode i, fun c i h => ?_⟩
  cases c with
  | host cmd => exact encode_of_decodeHost h
  | device code => exact encode_of_decodeDevice h

/-! ### The illegal words (rule R73) -/

theorem illegal_iff_toNat (w : Word) : illegal w = true ↔
    (w.toNat % 16 = 0 ∨ 5 ≤ w.toNat % 16 ∨ w.toNat / 16 % 16 ≠ 0 ∨
      ((w.toNat % 16 = 1 ∨ w.toNat % 16 = 2 ∨ w.toNat % 16 = 4) ∧ w.toNat / 256 ≠ 0)) := by
  have hrsv : cmdRsv w ≠ 0#4 ↔ w.toNat / 16 % 16 ≠ 0 := by simp [BitVec.toNat_eq, cmdRsv_toNat]
  have harg : cmdArg w ≠ 0#8 ↔ w.toNat / 256 ≠ 0 := by simp [BitVec.toNat_eq, cmdArg_toNat]
  simp only [illegal, Bool.or_eq_true, Bool.and_eq_true, decide_eq_true_eq, cmdOp_toNat, hrsv, harg, or_assoc]

theorem not_illegal_of_encode {i : Instr} {w : Word} (h : encode i = .host w) : illegal w = false := by
  cases i with
  | ataIdentifyDevice => nomatch h
  | pollStatus | reportError | detectDrive | identifyDevice =>
    cases h
    simp [illegal]

/-- The decoder refuses exactly the illegal words. -/
theorem illegal_iff_decode_ne (w : Word) : illegal w = true ↔ ∀ i, decode (.host w) ≠ .ok i := by
  refine ⟨fun hw i hi => ?_, fun hne => ?_⟩
  · exact Bool.false_ne_true ((not_illegal_of_encode (encode_of_decodeHost hi)).symm.trans hw)
  · cases hd : decodeHost w with
    | ok i => exact absurd hd (hne i)
    | error e => exact decodeHost_illegal hd

theorem decodeHost_of_illegal {w : Word} (hw : illegal w = true) : ∃ e, decodeHost w = .error e := by
  cases hd : decodeHost w with
  | ok i => exact absurd hd ((illegal_iff_decode_ne w).mp hw i)
  | error e => exact ⟨e, rfl⟩

namespace Machine

/-- An illegal word written to CMD in `IDLE` is refused, with no effect but the mark (rules R73, R211). -/
theorem step_write_illegal {s : State} {w : Word} {rest : List HostAction} (hh : s.host = .write 0x000 w :: rest)
    (hf : s.fsm = .idle) (hw : illegal w = true) : step s = .next (refuse .illegalCommand { s with host := rest }) := by
  obtain ⟨e, he⟩ := decodeHost_of_illegal hw
  rw [step_write hh, popHost_eq hh, hostWrite, if_pos rfl, hostCommand_error he, accept_of_idle]
  exact hf

end Machine

/-- Settles O2: the fields of a word are its digits, only encoded words decode, and an illegal word reaches the refusal of the
host port. -/
theorem illegalWordsAreRefused : Obligations.IllegalWordsAreRefused :=
  ⟨illegal_iff_toNat, illegal_iff_decode_ne, fun _ _ _ => Machine.step_write_illegal⟩

/-! ### The words of the opcode table (rules R71, R83) -/

/-- A table word of an instruction's code decodes to the instruction. -/
theorem decodeTableWord_encode {nbits w : Nat} {i : Instr} (h : tableCode nbits w = some (encode i)) :
    decodeTableWord nbits w = some i := by
  simp [decodeTableWord, h, decode_encode]

/-- A table word of 16 bits that rule R73 calls illegal decodes to nothing. -/
theorem decodeTableWord_illegal {w : Nat} (h : illegal (BitVec.ofNat 16 w) = true) : decodeTableWord 16 w = none := by
  obtain ⟨e, he⟩ := decodeHost_of_illegal h
  simp [decodeTableWord, tableCode, decode, he]

/-- Settles O3: the seven legal words are encodings, and the six others are illegal by rule R73. -/
theorem tableWordsDecode : Obligations.TableWordsDecode :=
  ⟨decodeTableWord_encode rfl, decodeTableWord_encode rfl, decodeTableWord_encode rfl, decodeTableWord_encode rfl,
    decodeTableWord_encode rfl, decodeTableWord_encode rfl, decodeTableWord_encode rfl,
    decodeTableWord_illegal rfl, decodeTableWord_illegal rfl, decodeTableWord_illegal rfl,
    decodeTableWord_illegal rfl, decodeTableWord_illegal rfl, decodeTableWord_illegal rfl⟩

/-! ### The drive index and the drive-select byte (rules R72, R79) -/

namespace Machine

theorem driveOf_cmdArg_toNat (w : Word) : (driveOf (cmdArg w)).toNat = w.toNat / 256 % 2 := by
  simp [driveOf, cmdArg_toNat]

theorem selByte_toNat (d : BitVec 1) : (selByte d).toNat = 0xA0 + 16 * d.toNat := by
  revert d
  decide

end Machine

/-- Settles O4: bit 0 of the operand is bit 8 of the word, and the select byte is computed for both drives. -/
theorem driveIndexAndSelectByte : Obligations.DriveIndexAndSelectByte :=
  ⟨Machine.driveOf_cmdArg_toNat, Machine.selByte_toNat, rfl, rfl⟩

end Sys2Proof
end

section
/-! SUPPORT. The host register map, read off (rules R74 to R78): the fields of CSR, the registers behind their gates, the two
windows' bytes and words, and the addresses where no register is. -/

namespace Sys2Proof.Machine

/-! ### Slices of a host register -/

section
variable {w lo : Nat} (v : BitVec w)

/-- A field reads back whole where the register holds all its bits. -/
theorem extractLsb'_field_same (h : lo + w ≤ 16) : (field lo v).extractLsb' lo w = v := by
  apply BitVec.eq_of_getLsbD_eq
  intro i hi
  simp [field_getLsbD v (show lo + i < 16 by omega), hi]

/-- A field leaves the bits outside of it 0. -/
theorem extractLsb'_field_other {a n : Nat} (hn : a + n ≤ 16) (h : lo + w ≤ a ∨ a + n ≤ lo) :
    (field lo v).extractLsb' a n = 0#n := by
  apply BitVec.eq_of_getLsbD_eq
  intro i hi
  rw [BitVec.getLsbD_extractLsb', field_getLsbD v (by omega), BitVec.getLsbD_zero]
  obtain h | h := h
  · simp [BitVec.getLsbD_of_ge v (a + i - lo) (by omega)]
  · simp [show ¬lo ≤ a + i by omega]

end

/-! ### CSR (rules R75, R84) -/

section
variable (s : State)

theorem csr_active : (csr s).getLsbD 0 = s.active := by simp [csr, flag_getElem, field_getElem]
theorem csr_classValid : (csr s).getLsbD 2 = s.classValid := by simp [csr, flag_getElem, field_getElem]
theorem csr_detectOk : (csr s).getLsbD 6 = s.detectOk := by simp [csr, flag_getElem, field_getElem]
theorem csr_detected : (csr s).getLsbD 7 = s.detected := by simp [csr, flag_getElem, field_getElem]
theorem csr_errValid : (csr s).getLsbD 8 = s.errValid := by simp [csr, flag_getElem, field_getElem]
theorem csr_errNoFlags : (csr s).getLsbD 9 = (s.errValid && decide (s.errFlags = 0#8)) := by
  simp [csr, flag_getElem, field_getElem]
theorem csr_identValid : (csr s).getLsbD 10 = s.identValid := by simp [csr, flag_getElem, field_getElem]
theorem csr_bit15 : (csr s).getLsbD 15 = false := by simp [csr, flag_getElem, field_getElem]

/-- `LAST_CLASS`, bits 5:3. -/
theorem csr_lastClass : (csr s).extractLsb' 3 3 = gate s.classValid (statusCode s.lastClass) := by
  simp [csr, flag, BitVec.extractLsb'_or, extractLsb'_field_same, extractLsb'_field_other]

/-- `SEL_DRIVE`, bit 11. -/
theorem csr_selDrive : (csr s).extractLsb' 11 1 = gate s.detected s.selDrive := by
  simp [csr, flag, BitVec.extractLsb'_or, extractLsb'_field_same, extractLsb'_field_other]

/-- `ATTEMPTS`, bits 14:12. -/
theorem csr_attempts : (csr s).extractLsb' 12 3 = BitVec.ofNat 3 s.attempts := by
  simp [csr, flag, BitVec.extractLsb'_or, extractLsb'_field_same, extractLsb'_field_other]

end

/-- Settles O46: each field of CSR read back, the gated ones where their valid bit is 1 and where it is 0. -/
theorem csrFields : Obligations.CsrFields := by
  intro s
  refine ⟨?_, csr_refused s, csr_classValid s, fun hv => ?_, fun hv => ?_, csr_detectOk s, csr_detected s, csr_errValid s, ?_,
    csr_identValid s, csr_selDrive s, csr_attempts s, csr_bit15 s⟩
  · rw [csr_active, active_eq_true]
  · rw [csr_lastClass, hv]
    cases s.lastClass <;> rfl
  · rw [csr_lastClass, hv, gate_false]
  · rw [csr_errNoFlags, Bool.and_eq_true, decide_eq_true_eq]

/-! ### Which addresses are mapped (rule R74) -/

theorem ite_some_eq_none {α : Type} {p : Prop} [Decidable p] {v : α} {o : Option α} :
    (if p then some v else o) = none ↔ ¬p ∧ o = none := by
  split <;> simp [*]

theorem identReg_eq_none {a : Nat} {s : State} : identReg a s = none ↔
    ¬((0x004 ≤ a ∧ a ≤ 0x00C) ∨ (0x020 ≤ a ∧ a ≤ 0x034) ∨ (0x038 ≤ a ∧ a ≤ 0x040) ∨ (0x048 ≤ a ∧ a ≤ 0x070) ∨
      (0x100 ≤ a ∧ a ≤ 0x1FF)) := by
  simp only [identReg, ite_some_eq_none, and_true]
  omega

/-- Settles O48: every branch of the map gives a value but the last one of the gated registers. -/
theorem unmappedHostAddresses : Obligations.UnmappedHostAddresses := by
  intro s a
  simp only [hostReg, ite_some_eq_none, Option.map_eq_none_iff, identReg_eq_none]
  omega

/-! ### The registers behind `s.ident_valid` (rules R74, R77, R78) -/

theorem gate_getLsbD {w : Nat} (valid : Bool) (v : BitVec w) (i : Nat) :
    (gate valid v).getLsbD i = (valid && v.getLsbD i) := by
  cases valid <;> simp

theorem gate_toNat_le {w : Nat} (valid : Bool) (v : BitVec w) : (gate valid v).toNat ≤ v.toNat := by
  cases valid <;> simp

theorem hostReg_of_identReg {a : Nat} {s : State} {v : Word} (ha : 0x004 ≤ a) (h : identReg a s = some v) :
    hostReg a s = some (gate s.identValid v) := by
  rw [hostReg, if_neg (by omega), if_neg (by omega), if_neg (by omega), h, Option.map_some]

theorem lba28Total_low (w : Vector Word 256) : (lba28Total w).extractLsb' 0 16 = wordAt w 60 := by
  apply BitVec.eq_of_getLsbD_eq
  intro i hi
  simp [lba28Total, hi, show i < 32 by omega]

theorem lba28Total_high (w : Vector Word 256) : (lba28Total w).extractLsb' 16 16 = wordAt w 61 := by
  apply BitVec.eq_of_getLsbD_eq
  intro i hi
  simp [lba28Total, hi, show 16 + i < 32 by omega]

/-! ### F_FLAGS (rule R77) -/

section
variable (s : State)

theorem fFlags_lbaSupported : (fFlags s).getLsbD 0 = lbaSupported s.identW := by simp [fFlags, flag_getElem]
theorem fFlags_dmaSupported : (fFlags s).getLsbD 1 = dmaSupported s.identW := by simp [fFlags, flag_getElem]
theorem fFlags_lba48Supported : (fFlags s).getLsbD 2 = lba48Supported s.identW := by simp [fFlags, flag_getElem]
theorem fFlags_removable : (fFlags s).getLsbD 3 = removable s.params s.identW := by simp [fFlags, flag_getElem]
theorem fFlags_fixedMedia : (fFlags s).getLsbD 4 = fixedMedia s.params s.identW := by simp [fFlags, flag_getElem]

theorem flags_toNat_lt : ∀ b0 b1 b2 b3 b4 : Bool,
    (flag 0 b0 ||| flag 1 b1 ||| flag 2 b2 ||| flag 3 b3 ||| flag 4 b4).toNat < 32 := by
  decide

theorem fFlags_toNat_lt : (fFlags s).toNat < 32 := flags_toNat_lt ..

theorem hostReg_fFlags : ∃ f : Word, hostReg 0x00C s = some f ∧
    f.getLsbD 0 = (s.identValid && lbaSupported s.identW) ∧
    f.getLsbD 1 = (s.identValid && dmaSupported s.identW) ∧
    f.getLsbD 2 = (s.identValid && lba48Supported s.identW) ∧
    f.getLsbD 3 = (s.identValid && removable s.params s.identW) ∧
    f.getLsbD 4 = (s.identValid && fixedMedia s.params s.identW) ∧
    f.toNat < 32 := by
  refine ⟨gate s.identValid (fFlags s), rfl, ?_, ?_, ?_, ?_, ?_, (gate_toNat_le ..).trans_lt (fFlags_toNat_lt s)⟩
  · rw [gate_getLsbD, fFlags_lbaSupported]
  · rw [gate_getLsbD, fFlags_dmaSupported]
  · rw [gate_getLsbD, fFlags_lba48Supported]
  · rw [gate_getLsbD, fFlags_removable]
  · rw [gate_getLsbD, fFlags_fixedMedia]

end

/-! ### The windows (rules R74, R78) -/

theorem strField_length (w : Vector Word 256) (base n : Nat) : (strField w base n).length = 2 * n + 1 := by
  simp [strField, List.length_flatMap, Nat.mul_comm]

/-- A string of `n` words has its last byte, the terminator, at `2n`. -/
theorem strField_index_le {w : Vector Word 256} {base n i : Nat} {b : Byte} (h : (strField w base n)[i]? = some b) :
    i ≤ 2 * n := by
  obtain ⟨hi, -⟩ := List.getElem?_eq_some_iff.mp h
  rw [strField_length] at hi
  omega

theorem stringReg_of_getElem? {out : List Byte} {i : Nat} {b : Byte} (h : out[i]? = some b) : stringReg out i = zext16 b := by
  rw [stringReg, List.getD_eq_getElem?_getD, h, Option.getD_some]

section
variable {i : Nat} (s : State)

theorem identReg_serial (hi : i ≤ 20) : identReg (0x020 + i) s = some (stringReg (serial s.identW) i) := by
  simp (disch := omega) only [identReg, if_neg, if_pos, Nat.add_sub_cancel_left]

theorem identReg_firmware (hi : i ≤ 8) : identReg (0x038 + i) s = some (stringReg (firmware s.identW) i) := by
  simp (disch := omega) only [identReg, if_neg, if_pos, Nat.add_sub_cancel_left]

theorem identReg_model (hi : i ≤ 40) : identReg (0x048 + i) s = some (stringReg (model s.identW) i) := by
  simp (disch := omega) only [identReg, if_neg, if_pos, Nat.add_sub_cancel_left]

theorem identReg_identWord (hi : i < 256) : identReg (0x100 + i) s = some (wordAt s.identW i) := by
  simp (disch := omega) only [identReg, if_neg, if_pos, Nat.add_sub_cancel_left]

end

/-- A string's window shows byte `i` of the string, behind the gate. -/
theorem hostReg_window {s : State} {a i : Nat} {out : List Byte} {b : Byte} (ha : 0x004 ≤ a) (hb : out[i]? = some b)
    (h : identReg a s = some (stringReg out i)) : hostReg a s = some (gate s.identValid (zext16 b)) := by
  rw [hostReg_of_identReg ha h, stringReg_of_getElem? hb]

/-- Settles O47: a register of its own address is its branch of the map; the windows are read at every index their strings and
the buffer have. -/
theorem gatedRegisters : Obligations.GatedRegisters := by
  intro s
  refine ⟨rfl, rfl, rfl, rfl, rfl, rfl, rfl, rfl, ?_, ?_, rfl, hostReg_fFlags s, fun i b hb => ?_, fun i b hb => ?_,
    fun i b hb => ?_, fun k hk => ?_⟩
  · exact lba28Total_low s.identW ▸ hostReg_of_identReg (by decide) rfl
  · exact lba28Total_high s.identW ▸ hostReg_of_identReg (by decide) rfl
  · exact hostReg_window (by omega) hb (identReg_serial s (strField_index_le hb))
  · exact hostReg_window (by omega) hb (identReg_firmware s (strField_index_le hb))
  · exact hostReg_window (by omega) hb (identReg_model s (strField_index_le hb))
  · exact hostReg_of_identReg (by omega) (identReg_identWord s hk)

end Sys2Proof.Machine
end

section
/-! SUPPORT. The Status Classifier (rules R100 to R106): the bits a status byte is classified by, the acceptance of POLL_STATUS,
the run of one PollStatus sequence, and the two ends of it that the host and the Drive Selector wait for. -/

namespace Sys2Proof.Machine

/-! ### Classification (rules R81, R100, R101) -/

section
variable {b c : Byte}

theorem bsy_eq (b : Byte) : bsy b = decide (b.toNat / 128 % 2 = 1) := Nat.testBit_eq_decide_div_mod_eq
theorem drdy_eq (b : Byte) : drdy b = decide (b.toNat / 64 % 2 = 1) := Nat.testBit_eq_decide_div_mod_eq
theorem df_eq (b : Byte) : df b = decide (b.toNat / 32 % 2 = 1) := Nat.testBit_eq_decide_div_mod_eq
theorem err_eq (b : Byte) : err b = decide (b.toNat % 2 = 1) := Nat.testBit_zero ..

theorem classify_notReady (h7 : bsy b = false) (h6 : drdy b = false) : classify b = .notReady := by
  simp [classify, h7, h6]

theorem classify_notPresent (h7 : bsy b = true) (h6 : drdy b = true) : classify b = .notPresent := by
  simp [classify, h7, h6]

theorem classify_busy (h7 : bsy b = true) (h6 : drdy b = false) : classify b = .busy := by
  simp [classify, h7, h6]

theorem classify_error (h7 : bsy b = false) (h6 : drdy b = true) (h0 : err b = true) : classify b = .error := by
  simp [classify, h7, h6, h0]

theorem classify_fault (h7 : bsy b = false) (h6 : drdy b = true) (h0 : err b = false) (h5 : df b = true) :
    classify b = .fault := by
  simp [classify, h7, h6, h0, h5]

theorem classify_ready (h7 : bsy b = false) (h6 : drdy b = true) (h0 : err b = false) (h5 : df b = false) :
    classify b = .ready := by
  simp [classify, h7, h6, h0, h5]

/-- `classify` looks at bits 7, 6, 5 and 0 only. -/
theorem classify_congr (h7 : bsy b = bsy c) (h6 : drdy b = drdy c) (h5 : df b = df c) (h0 : err b = err c) :
    classify b = classify c := by
  simp only [classify, h7, h6, h5, h0]

/-- Bytes equal under a mask agree on every bit of it. -/
theorem getLsbD_eq_of_and_eq {m : Byte} {i : Nat} (hm : m.getLsbD i = true) (h : b &&& m = c &&& m) :
    b.getLsbD i = c.getLsbD i := by
  have hi := congrArg (·.getLsbD i) h
  simpa only [BitVec.getLsbD_and, hm, Bool.and_true] using hi

end

/-- Settles O18: each of the four bits is a digit of the byte, and each case of rule R100 has its equation. -/
theorem classifyFollowsThePriority : Obligations.ClassifyFollowsThePriority := by
  intro b
  refine ⟨fun ⟨n7, n6⟩ => ?_, fun ⟨n7, n6⟩ => ?_, fun ⟨n7, n6⟩ => ?_, fun ⟨n7, n6⟩ => ⟨fun n0 => ?_, fun ⟨n0, n5⟩ => ?_,
    fun ⟨n0, n5⟩ => ?_⟩⟩
  · exact classify_notReady (by simp [bsy_eq, n7]) (by simp [drdy_eq, n6])
  · exact classify_notPresent (by simp [bsy_eq, n7]) (by simp [drdy_eq, n6])
  · exact classify_busy (by simp [bsy_eq, n7]) (by simp [drdy_eq, n6])
  · exact classify_error (by simp [bsy_eq, n7]) (by simp [drdy_eq, n6]) (by simp [err_eq, n0])
  · exact classify_fault (by simp [bsy_eq, n7]) (by simp [drdy_eq, n6]) (by simp [err_eq, n0]) (by simp [df_eq, n5])
  · exact classify_ready (by simp [bsy_eq, n7]) (by simp [drdy_eq, n6]) (by simp [err_eq, n0]) (by simp [df_eq, n5])

/-- Settles O19: the mask 0xE1 holds the four bits `classify` looks at. -/
theorem classifyIgnoresTheOtherBits : Obligations.ClassifyIgnoresTheOtherBits :=
  ⟨fun _ _ h => classify_congr (getLsbD_eq_of_and_eq rfl h) (getLsbD_eq_of_and_eq rfl h) (getLsbD_eq_of_and_eq rfl h)
      (getLsbD_eq_of_and_eq rfl h),
    classify_ready rfl rfl rfl rfl, classify_notReady rfl rfl⟩

/-! ### The start and the end of POLL_STATUS (rules R104, R106) -/

theorem exec_pollStatus_of_idle {s : State} (hf : s.fsm = .idle) :
    exec .pollStatus s = .next (startPoll .host { s with op := .pollStatus }) :=
  congrArg Host.Outcome.next (accept_of_idle hf)

/-- Settles O12: in `IDLE` the command is accepted, and its effect is the start of a PollStatus sequence for the host. -/
theorem pollStatusIsAccepted : Obligations.PollStatusIsAccepted := fun _ hf => exec_pollStatus_of_idle hf

theorem stepPsDone_host {s : State} (hc : s.psCtx = .host) : stepPsDone s = finish s := by simp [stepPsDone, hc]

theorem stepPsDone_detect {s : State} (hc : s.psCtx = .detect) : stepPsDone s = goto .ddEval s := by simp [stepPsDone, hc]

/-- Settles O22: the dispatch of `PS_DONE` in its first two contexts. -/
theorem pollDoneDispatches : Obligations.PollDoneDispatches := by
  refine fun s hf => ⟨fun hc => ?_, fun hc => ?_⟩
  · rw [blockStep_psDone hf, stepPsDone_host hc, finish]
  · rw [blockStep_psDone hf, stepPsDone_detect hc, goto]

/-! ### One PollStatus sequence (rules R103, R105) -/

/-- The bytes are what reads of an 8-bit register take from the device's coming answers: each the low byte of its answer, and
free past the end of the list. -/
def ReadFrom (draws : List Word) (bytes : List Byte) : Prop :=
  ∀ (k : Nat) (v : Word), k < bytes.length → draws[k]? = some v → bytes[k]? = some (lo8 v)

namespace ReadFrom

theorem nil (draws : List Word) : ReadFrom draws [] := fun _ _ hk => absurd hk (Nat.not_lt_zero _)

/-- One read, and those after it from the answers it leaves. -/
theorem readByte_cons {r : DevReg} {s : State} {bytes : List Byte} (h : ReadFrom s.draws.tail bytes) :
    ReadFrom s.draws (readByte r s :: bytes) := by
  intro k v hk hv
  cases hd : s.draws with
  | nil => simp [hd] at hv
  | cons w ws =>
    rw [hd] at h hv
    cases k with
    | zero =>
      obtain rfl : w = v := by simpa using hv
      simp [readByte, answer_cons hd]
    | succ k => exact h k v (by simpa using hk) hv

end ReadFrom

/-- Where a PollStatus sequence stands between two of its reads: at a discard read while some are left, else at the
authoritative one. -/
def nextRead (s : State) : Fsm := if s.psCount < s.params.nDiscard then .psRead else .psAuth

/-- One discard read and its settle. -/
def discardRound (s : State) : State := stepPsSettle (stepPsRead s)

/-- The end of a PollStatus sequence from `s`, its discard reads `vs` and its authoritative read `b`. -/
def State.polled (s : State) (vs : List Byte) (b : Byte) : State :=
  { s with
    psCount := s.psCount + vs.length
    rawStatus := b
    lastClass := classify b
    classValid := true
    draws := s.draws.drop (vs.length + 1)
    trace := pollTrace s.params.tSettleNs vs b s.trace
    fsm := .psDone }

section
variable (s : State) (vs : List Byte) (b : Byte)

@[simp] theorem polled_fsm : (s.polled vs b).fsm = .psDone := rfl
@[simp] theorem polled_psCtx : (s.polled vs b).psCtx = s.psCtx := rfl
@[simp] theorem polled_host : (s.polled vs b).host = s.host := rfl
@[simp] theorem polled_lastClass : (s.polled vs b).lastClass = classify b := rfl
@[simp] theorem polled_classValid : (s.polled vs b).classValid = true := rfl

end

section
variable {s : State}

theorem steps_discardRound (hh : s.host = []) (hf : s.fsm = .psRead) : steps 2 s = .next (discardRound s) := by
  have hread : step s = .next (stepPsRead s) := (step_nil hh).trans (blockStep_psRead hf)
  have hsettle : step (stepPsRead s) = .next (discardRound s) :=
    (step_nil (s := stepPsRead s) hh).trans (blockStep_psSettle rfl)
  rw [steps_succ hread, steps_succ hsettle, steps_zero]

theorem discardRound_fsm (s : State) : (discardRound s).fsm = nextRead (discardRound s) := rfl

theorem discardRound_polled (s : State) (vs : List Byte) (b : Byte) :
    (discardRound s).polled vs b = s.polled (readByte .statusCommand s :: vs) b := by
  have hcount : s.psCount + 1 + vs.length = s.psCount + (vs.length + 1) := by omega
  have hdraws : s.draws.tail.drop (vs.length + 1) = s.draws.drop (vs.length + 1 + 1) := List.drop_tail
  simp only [State.polled, List.length_cons, ← hcount, ← hdraws]
  rfl

theorem stepPsAuth_eq_polled (s : State) : stepPsAuth s = s.polled [] (readByte .statusCommand s) := by
  simp only [State.polled, List.length_nil, Nat.zero_add, List.drop_one]
  rfl

/-- With `n` discard reads left, by induction on `n`: a round is two steps, and the last step is the authoritative read. -/
theorem steps_polled (n : Nat) (hh : s.host = []) (hn : s.psCount + n = s.params.nDiscard) (hf : s.fsm = nextRead s) :
    ∃ (vs : List Byte) (b : Byte),
      vs.length = n ∧ ReadFrom s.draws (vs ++ [b]) ∧ steps (2 * n + 1) s = .next (s.polled vs b) := by
  induction n generalizing s with
  | zero =>
    have hauth : step s = .next (stepPsAuth s) := (step_nil hh).trans (blockStep_psAuth (hf.trans (if_neg (by omega))))
    refine ⟨[], readByte .statusCommand s, rfl, (ReadFrom.nil _).readByte_cons, ?_⟩
    rw [steps_succ hauth, steps_zero, stepPsAuth_eq_polled]
  | succ n ih =>
    have hround : steps 2 s = .next (discardRound s) := steps_discardRound hh (hf.trans (if_pos (by omega)))
    have hleft : (discardRound s).psCount + n = (discardRound s).params.nDiscard := Eq.trans (Nat.succ_add_eq_add_succ ..) hn
    obtain ⟨vs, b, hlen, hreads, hsteps⟩ := ih (s := discardRound s) hh hleft (discardRound_fsm s)
    refine ⟨readByte .statusCommand s :: vs, b, congrArg Nat.succ hlen, hreads.readByte_cons, ?_⟩
    rw [show 2 * (n + 1) + 1 = 2 + (2 * n + 1) by omega, steps_add hround, hsteps, discardRound_polled]

/-- A whole sequence, from its start (rule R103). -/
theorem steps_polled_of_start (hf : s.fsm = .psRead) (hc : s.psCount = 0) (hh : s.host = [])
    (hn : 1 ≤ s.params.nDiscard) :
    ∃ (vs : List Byte) (b : Byte), vs.length = s.params.nDiscard ∧ ReadFrom s.draws (vs ++ [b]) ∧
      steps (2 * s.params.nDiscard + 1) s = .next (s.polled vs b) :=
  steps_polled _ hh (by omega) (hf.trans (if_pos (by omega)).symm)

end

/-- Settles O21: the run `steps_polled`, from `s.ps_count = 0` and so with all the discard reads left. -/
theorem pollStatusSequence : Obligations.PollStatusSequence := by
  intro s hf hc hh hn
  obtain ⟨vs, b, hlen, hreads, hsteps⟩ := steps_polled_of_start hf hc hh hn
  refine ⟨vs, b, hlen, fun k v hk => hreads k v (by rw [List.length_append, List.length_singleton]; omega), ?_⟩
  rw [hsteps, State.polled, hlen, hc, Nat.zero_add]

/-! ### POLL_STATUS from the host's write to its end (rules R84, R106) -/

/-- The host's write of POLL_STATUS in `IDLE`. -/
theorem step_write_pollStatus {s : State} {rest : List HostAction} (hh : s.host = .write 0x000 0x0001#16 :: rest)
    (hf : s.fsm = .idle) : step s = .next (startPoll .host { s with host := rest, op := .pollStatus }) := by
  have hidle : (popHost s).fsm = .idle := hf
  rw [step_write hh, hostWrite, if_pos rfl, hostCommand_ok (i := .pollStatus) rfl, exec_pollStatus_of_idle hidle,
    popHost_eq hh]

/-- A whole sequence for the host, and the end of its operation (rule R104). -/
theorem steps_pollStatus {s : State} (hf : s.fsm = .psRead) (hc : s.psCount = 0) (hctx : s.psCtx = .host)
    (hh : s.host = []) (hn : 1 ≤ s.params.nDiscard) :
    ∃ (vs : List Byte) (b : Byte), vs.length = s.params.nDiscard ∧
      steps (2 * s.params.nDiscard + 2) s = .next (finish (s.polled vs b)) := by
  obtain ⟨vs, b, hlen, -, hsteps⟩ := steps_polled_of_start hf hc hh hn
  have hdone : step (s.polled vs b) = .next (finish (s.polled vs b)) := by
    rw [step_nil ((polled_host ..).trans hh), blockStep_psDone (polled_fsm ..),
      stepPsDone_host ((polled_psCtx ..).trans hctx)]
  exact ⟨vs, b, hlen, by rw [steps_add hsteps 1, steps_succ hdone, steps_zero]⟩

/-- Settles O23: the write starts the sequence of `steps_pollStatus`; its end is read off through the register map. -/
theorem pollStatusRunsToItsEnd : Obligations.PollStatusRunsToItsEnd := by
  intro s hf hh hn
  obtain ⟨vs, b, hlen, hsteps⟩ :=
    steps_pollStatus (s := startPoll .host { s with host := [], op := .pollStatus }) rfl rfl rfl rfl hn
  refine ⟨vs, b, _, hlen, (steps_succ (step_write_pollStatus hh hf) _).trans hsteps, ?_, rfl, ?_, csr_active _,
    csr_classValid _⟩
  · simp only [finish, State.polled, startPoll, hf, Nat.zero_add] at hlen ⊢
    rw [hlen]
  · rw [csr_lastClass, finish_classValid, finish_lastClass, polled_classValid, polled_lastClass, gate_true]
    cases classify b <;> rfl

end Sys2Proof.Machine
end

section
/-! SUPPORT. The Error Decoder (rules R120 to R126): the set bits of an error byte, the acceptance of REPORT_ERROR, the run of
one ErrorReport, and what an ErrorReport leaves alone. -/

namespace Sys2Proof.Machine

/-! ### The set bits of an error byte (rules R82, R120, R122) -/

theorem flagOf_injective : Function.Injective flagOf := by
  unfold Function.Injective
  decide

theorem errorBits_pairwise : errorBits.Pairwise (· < ·) := by decide

/-- The set bits of an error byte from `start` on, ascending: those `ER_EMIT` has still to report. -/
def setBits (e : Byte) (start : Nat) : List (Fin 8) :=
  errorBits.filter fun i => decide (start ≤ i.val) && e.getLsbD i.val

section
variable {e : Byte} {start : Nat} {j : Fin 8} {js : List (Fin 8)}

theorem decodeError_eq_map_setBits (e : Byte) : decodeError e = (setBits e 0).map flagOf := by
  simp [decodeError, setBits]

theorem setBits_pairwise (e : Byte) (start : Nat) : (setBits e start).Pairwise (· < ·) := errorBits_pairwise.filter _

theorem nextErrorBit_eq_head? (e : Byte) (start : Nat) : nextErrorBit e start = (setBits e start).head? :=
  List.head?_filter.symm

theorem mem_setBits : j ∈ setBits e start ↔ start ≤ j.val ∧ e.getLsbD j.val = true := by
  simp [setBits, mem_errorBits]

/-- Past a bit, the set bits are those beyond it in the ascending list. -/
theorem setBits_succ (h : start ≤ j.val) : setBits e (j.val + 1) = (setBits e start).filter (j < ·) := by
  simp only [setBits, List.filter_filter]
  refine List.filter_congr fun i _ => ?_
  have hi : j.val + 1 ≤ i.val ↔ j < i ∧ start ≤ i.val := by
    rw [Fin.lt_def]
    omega
  simp [hi, Bool.and_assoc]

/-- Past the first set bit, the rest of them are left. -/
theorem setBits_tail (h : setBits e start = j :: js) : setBits e (j.val + 1) = js := by
  have hj : j ∈ setBits e start := h ▸ List.mem_cons_self
  have hsorted : (j :: js).Pairwise (· < ·) := h ▸ setBits_pairwise e start
  rw [setBits_succ (mem_setBits.mp hj).1, h, List.filter_cons_of_neg (by simp), List.filter_eq_self]
  simpa using (List.pairwise_cons.mp hsorted).1

theorem setBits_ne_nil (he : e ≠ 0#8) : setBits e 0 ≠ [] := by
  have hne := nextErrorBit_zero_ne_none he
  rwa [nextErrorBit_eq_head?, ne_eq, List.head?_eq_none_iff] at hne

theorem ne_zero_of_setBits (h : setBits e start = j :: js) : e ≠ 0#8 := by
  rintro rfl
  simp [setBits] at h

/-- The last set bit is the highest: the byte's binary logarithm. -/
theorem log2_eq_of_setBits (h : setBits e start = [j]) : e.toNat.log2 = j.val := by
  have hj : e.getLsbD j.val = true := (mem_setBits.mp (h ▸ List.mem_cons_self)).2
  have hlt : e.toNat < 2 ^ (j.val + 1) := Nat.lt_pow_two_of_testBit _ fun i hi => by
    by_contra hset
    have hi8 : i < 8 := BitVec.lt_of_getLsbD (eq_true_of_ne_false hset)
    have hmem : (⟨i, hi8⟩ : Fin 8) ∈ setBits e (j.val + 1) := mem_setBits.mpr ⟨hi, eq_true_of_ne_false hset⟩
    rw [setBits_tail h] at hmem
    exact List.not_mem_nil hmem
  have hge : 2 ^ j.val ≤ e.toNat := Nat.ge_two_pow_of_testBit hj
  exact (Nat.log2_eq_iff (by have := Nat.two_pow_pos j.val; omega)).mpr ⟨hge, hlt⟩

end

/-- Settles O24: the flags are those of the set bits, and different bits have different flags. -/
theorem decodeErrorIsTheSetBits : Obligations.DecodeErrorIsTheSetBits := by
  refine ⟨fun e i => ?_, fun e => ?_, rfl, rfl⟩
  · have hbit : e.getLsbD i.val = decide (e.toNat / 2 ^ i.val % 2 = 1) := Nat.testBit_eq_decide_div_mod_eq
    rw [decodeError_eq_map_setBits, List.mem_map_of_injective flagOf_injective, mem_setBits, hbit]
    simp
  · have hnodup : (setBits e 0).Nodup := (setBits_pairwise e 0).imp ne_of_lt
    rw [decodeError_eq_map_setBits]
    exact hnodup.map flagOf_injective

/-! ### The start and the end of REPORT_ERROR (rules R121, R125, R174) -/

section
variable {s : State}

theorem exec_reportError_of_idle (hf : s.fsm = .idle) :
    exec .reportError s = .next (if s.classValid = true ∧ s.lastClass = .error then
      startErrorReport .host { s with op := .reportError } else refuse .reportErrorWithoutError s) :=
  congrArg Host.Outcome.next (accept_of_idle hf)

theorem stepErDone_host (hc : s.erCtx = .host) : stepErDone s = finish s := by simp [stepErDone, hc]

theorem stepErDone_ident (hc : s.erCtx = .ident) : stepErDone s = startTransfer s := by simp [stepErDone, hc]

end

/-- Settles O13: with the precondition of rule R125 the command's effect is the start of an ErrorReport for the host. -/
theorem reportErrorIsAccepted : Obligations.ReportErrorIsAccepted := by
  intro s hf hv hl
  rw [exec_reportError_of_idle hf, if_pos ⟨hv, hl⟩, startErrorReport]

/-- Settles O14: where either half of the precondition fails, the command's effect is the refusal. -/
theorem reportErrorWithoutErrorIsRefused : Obligations.ReportErrorWithoutErrorIsRefused := by
  intro s hf hno
  have hpre : ¬(s.classValid = true ∧ s.lastClass = .error) := by
    rwa [not_and_or, Bool.not_eq_true]
  rw [exec_reportError_of_idle hf, if_neg hpre, refuse]

/-- Settles O26: the dispatch of `ER_DONE` in its two contexts. -/
theorem errorReportDoneDispatches : Obligations.ErrorReportDoneDispatches := by
  refine fun s hf => ⟨fun hc => ?_, fun hc => ?_⟩
  · rw [blockStep_erDone hf, stepErDone_host hc, finish]
  · rw [blockStep_erDone hf, stepErDone_ident hc, startTransfer]

/-! ### One ErrorReport (rules R121 to R123) -/

/-- The end of an ErrorReport from a state in `ER_EMIT` with the flags of `bits` still to emit. -/
def State.flagsEmitted (s : State) (bits : List (Fin 8)) : State :=
  { s with
    erI := s.errFlags.toNat.log2 + 1
    trace := (bits.map fun i => .emit (.errorFlag (flagOf i))).reverse ++ s.trace
    fsm := .erDone }

section
variable {s : State} {j : Fin 8} {js : List (Fin 8)}

theorem stepErEmit_noFlags (he : s.errFlags = 0#8) : stepErEmit s = .next (goto .erDone (emit .errorNoFlags s)) :=
  if_pos he

theorem stepErEmit_flag (h : setBits s.errFlags s.erI = j :: js) : stepErEmit s = .next (emitFlag j s) := by
  have hnext : nextErrorBit s.errFlags s.erI = some j := by rw [nextErrorBit_eq_head?, h, List.head?_cons]
  rw [stepErEmit, if_neg (ne_zero_of_setBits h), hnext]

/-- The last set bit ends the report. -/
theorem emitFlag_last (h : setBits s.errFlags s.erI = [j]) : emitFlag j s = s.flagsEmitted [j] := by
  have hnone : nextErrorBit s.errFlags (j.val + 1) = none := by rw [nextErrorBit_eq_head?, setBits_tail h, List.head?_nil]
  rw [emitFlag, if_pos hnone, State.flagsEmitted, log2_eq_of_setBits h]
  rfl

/-- A set bit with another one beyond it leaves the block in `ER_EMIT`. -/
theorem emitFlag_fsm_more {k : Fin 8} (h : setBits s.errFlags s.erI = j :: k :: js) : (emitFlag j s).fsm = .erEmit := by
  have hsome : nextErrorBit s.errFlags (j.val + 1) ≠ none := by simp [nextErrorBit_eq_head?, setBits_tail h]
  exact if_neg hsome

theorem flagsEmitted_emitFlag (j : Fin 8) (s : State) (js : List (Fin 8)) :
    (emitFlag j s).flagsEmitted js = s.flagsEmitted (j :: js) := by
  simp only [State.flagsEmitted, List.map_cons, List.reverse_cons, List.append_assoc]
  rfl

/-- From `ER_EMIT`, the one step of an empty error byte (rule R123). -/
theorem steps_noFlags (hf : s.fsm = .erEmit) (hh : s.host = []) (he : s.errFlags = 0#8) :
    steps 1 s = .next (goto .erDone (emit .errorNoFlags s)) := by
  have hempty : step s = .next (goto .erDone (emit .errorNoFlags s)) := by
    rw [step_nil hh, blockStep_erEmit hf, stepErEmit_noFlags he]
  rw [steps_succ hempty, steps_zero]

/-- From `ER_EMIT`, one step for each set bit left, by induction on their list. -/
theorem steps_flagsEmitted (hf : s.fsm = .erEmit) (hh : s.host = []) (hbits : setBits s.errFlags s.erI = j :: js) :
    steps (js.length + 1) s = .next (s.flagsEmitted (j :: js)) := by
  induction js generalizing j s with
  | nil =>
    have hlast : step s = .next (s.flagsEmitted [j]) := by
      rw [step_nil hh, blockStep_erEmit hf, stepErEmit_flag hbits, emitFlag_last hbits]
    rw [List.length_nil, steps_succ hlast, steps_zero]
  | cons k js ih =>
    have hflag : step s = .next (emitFlag j s) := by rw [step_nil hh, blockStep_erEmit hf, stepErEmit_flag hbits]
    have hleft : setBits (emitFlag j s).errFlags (emitFlag j s).erI = k :: js := setBits_tail hbits
    rw [List.length_cons, steps_succ hflag, ih (emitFlag_fsm_more hbits) hh hleft, flagsEmitted_emitFlag]

end

/-- Settles O25: the read of `ER_READ`, then the one event of an empty error byte, or the run `steps_flagsEmitted` over all
the set bits. -/
theorem errorReportEmitsEachSetBit : Obligations.ErrorReportEmitsEachSetBit := by
  intro s hf hh
  have hread : step s = .next (stepErRead s) := (step_nil hh).trans (blockStep_erRead hf)
  rw [Nat.add_comm, steps_succ hread]
  by_cases he : readByte .errorFeatures s = 0#8
  · have hrun := steps_noFlags (s := stepErRead s) rfl hh he
    simp only [errorReportEvents, if_pos he, List.length_singleton, hrun]
    rfl
  · obtain ⟨j, js, hbits⟩ := List.exists_cons_of_ne_nil (setBits_ne_nil he)
    have hrun := steps_flagsEmitted (s := stepErRead s) rfl hh hbits
    simp only [errorReportEvents, if_neg he, decodeError_eq_map_setBits, hbits, List.length_map, List.length_cons,
      List.map_map, hrun]
    rfl

/-! ### What an ErrorReport leaves alone, and what leads to one (rules R124 to R126, R173) -/

section
variable {s t : State}

theorem not_inErrorReport {f : Fsm} (hf : s.fsm = f) (h : f.inErrorReport = false) : s.fsm.inErrorReport ≠ true :=
  Bool.eq_false_iff.mp ((congrArg Fsm.inErrorReport hf).trans h)

/-- The error register's row of rule R52's table. -/
theorem accessAllowed_readError {f : Fsm} {n : Nat} {v : Word} :
    accessAllowed f (.memRead .errorFeatures n v) = true ↔ n = 1 ∧ f = .erRead := by
  simp [accessAllowed]

/-- The status register's row of rule R52's table, for a read. -/
theorem accessAllowed_readStatus {f : Fsm} {n : Nat} {v : Word} :
    accessAllowed f (.memRead .statusCommand n v) = true ↔ n = 1 ∧ (f = .psRead ∨ f = .psAuth) := by
  simp [accessAllowed]

/-- A move of the block that ends in `ER_READ` is the error branch of the post-command poll (rule R173). -/
theorem BlockMove.of_next_erRead (hm : BlockMove s t) (ht : t.fsm = .erRead) :
    s.fsm = .psDone ∧ s.psCtx = .idPost ∧ s.lastClass = .error := by
  cases hm
  case psDone_postError hf hc hl => exact ⟨hf, hc, hl⟩
  case idle hf | ddWait_goesOn _ hf _ | ddWait_forever hf _ => exact nomatch hf.symm.trans ht
  all_goals exact nomatch ht

/-- A host command that leads from another state to `ER_READ` is REPORT_ERROR, accepted (rule R125). -/
theorem exec_next_erRead {i : Instr} (hi : i ≠ .ataIdentifyDevice) (h : exec i s = .next t) (hs : s.fsm ≠ .erRead)
    (ht : t.fsm = .erRead) : s.fsm = .idle ∧ s.classValid = true ∧ s.lastClass = .error ∧ t.op = .reportError := by
  obtain ⟨-, rfl⟩ | ⟨hf, hcase⟩ := exec_cases hi h
  · exact absurd ht hs
  obtain ⟨-, rfl⟩ | ⟨-, hv, hl, rfl⟩ | ⟨-, -, rfl⟩ | ⟨_, -, rfl⟩ | ⟨-, -, rfl⟩ | ⟨-, -, rfl⟩ := hcase
  · exact nomatch ht
  · exact ⟨hf, hv, hl, rfl⟩
  · exact absurd ht hs
  · exact nomatch ht
  · exact nomatch ht
  · exact absurd ht hs

end

/-- Settles O27: only `PS_AUTH` writes the classification (`AllowedWrites`), the status register is read in the states rule
R52's table gives, and the one move into `ER_READ` starts in `PS_DONE`. -/
theorem errorReportOnlyReports : Obligations.ErrorReportOnlyReports := by
  intro s t hs h
  have hm := BlockMove.of_blockStep h
  have hsame : ¬(t.rawStatus ≠ s.rawStatus ∨ t.lastClass ≠ s.lastClass ∨ t.classValid ≠ s.classValid) := fun hw =>
    not_inErrorReport ((AllowedWrites.of_blockMove hm).classification hw) rfl hs
  simp only [ne_eq, not_or, not_not] at hsame
  obtain ⟨hraw, hclass, hvalid⟩ := hsame
  refine ⟨hclass, hvalid, hraw, fun n v hread => ?_, fun ht => ?_⟩
  · obtain ⟨-, hf | hf⟩ := accessAllowed_readStatus.mp (hm.accessAllowed hread)
    · exact not_inErrorReport hf rfl hs
    · exact not_inErrorReport hf rfl hs
  · exact not_inErrorReport (hm.of_next_erRead ht).1 rfl hs

/-- Settles O28: the error register's row of rule R52's table; the moves and the commands that end in `ER_READ`, where every
other turn leaves `s.fsm` or goes to `IDLE`; and the invariant's clause for an ErrorReport. -/
theorem errorRegisterReadOnlyAfterError : Obligations.ErrorRegisterReadOnlyAfterError := by
  refine ⟨fun s t n v h ht => ?_, fun s t h hs ht => ?_, fun s h hf => h.error_class (by rw [hf]; rfl)⟩
  · exact (accessAllowed_readError.mp (deviceAccessesAreThoseOfTheTable s t _ h ht)).2
  · obtain ⟨u, rfl | rfl, hm⟩ | ⟨w, i, _, -, hw, he⟩ | ⟨r, -, rfl⟩ | ⟨_, _, rfl⟩ | rfl | ⟨-, rfl⟩ := step_moves h
    · exact .inr (hm.of_next_erRead ht)
    · exact .inr (hm.of_next_erRead ht)
    · exact .inl (exec_next_erRead (s := popHost s) (fun hi => decodeHost_ne_ata w (hi ▸ hw)) he hs ht)
    · exact absurd ht hs
    · exact absurd ht hs
    · exact absurd ht hs
    · exact nomatch ht

end Sys2Proof.Machine
end

section
/-! SUPPORT. The Drive Selector, one state at a time (rules R140 to R149): the acceptance of DETECT_DRIVE, what each state does
in each of its cases, and the only ways into the states of the read-back test. -/

namespace Sys2Proof.Machine

/-! ### The acceptance of DETECT_DRIVE and the select byte (rules R72, R79, R140) -/

theorem exec_detectDrive_of_idle {s : State} (driveIndex : Byte) (hf : s.fsm = .idle) :
    exec (.detectDrive driveIndex) s = .next { s with
      op := .detectDrive, selDrive := driveOf driveIndex, budget := budgetOf (driveOf driveIndex), attempts := 0,
      detectOk := false, detected := false, identValid := false, fsm := .ddSelect } :=
  congrArg Host.Outcome.next (accept_of_idle hf)

theorem driveOf_eq_ofBool (driveIndex : Byte) : driveOf driveIndex = BitVec.ofBool (driveIndex.getLsbD 0) := by
  ext i hi
  obtain rfl : i = 0 := by omega
  simp [driveOf]

theorem budgetOf_ofBool (b : Bool) : budgetOf (BitVec.ofBool b) = if b then 1 else 5 := by cases b <;> rfl

theorem selByte_eq (d : BitVec 1) : selByte d = if d = 0#1 then 0xA0#8 else 0xB0#8 := by
  revert d
  decide

theorem zext16_selByte_eq (d : BitVec 1) : zext16 (selByte d) = if d = 0#1 then 0x00A0#16 else 0x00B0#16 := by
  revert d
  decide

/-- Settles O15: in `IDLE` the command is accepted; the drive is bit 0 of the operand, and its budget follows. -/
theorem detectDriveIsAccepted : Obligations.DetectDriveIsAccepted := by
  intro s driveIndex hf
  rw [exec_detectDrive_of_idle driveIndex hf, driveOf_eq_ofBool, budgetOf_ofBool]

/-- Settles O29: the select byte of each drive, as the device keeps it and as the trace records it. -/
theorem everyAttemptWritesTheSelectByte : Obligations.EveryAttemptWritesTheSelectByte := by
  intro s hf
  rw [blockStep_ddSelect hf, stepDdSelect, portWrite, DeviceRegs.write, lo8_zext16, zext16_selByte_eq, selByte_eq]
  rfl

/-! ### The dispatch, the backoff and the read-back, case by case (rules R144, R145, R147) -/

section
variable {s : State}

theorem stepDdEval_notReady (hl : s.lastClass = .notReady) : stepDdEval s = goto .ddBackoff s := by simp [stepDdEval, hl]

theorem stepDdEval_ready (hl : s.lastClass = .ready) : stepDdEval s = goto .ddRbW1 s := by simp [stepDdEval, hl]

theorem stepDdEval_fails (hn : s.lastClass ≠ .notReady) (hr : s.lastClass ≠ .ready) : stepDdEval s = detectFails s := by
  cases hl : s.lastClass
  case notReady => exact absurd hl hn
  case ready => exact absurd hl hr
  all_goals simp [stepDdEval, hl]

theorem stepDdWait_completes (hd : s.delayLeft = some 0) : stepDdWait s = afterDelay s := by simp [stepDdWait, hd]

theorem stepDdWait_goesOn {n : Nat} (hd : s.delayLeft = some (n + 1)) : stepDdWait s = { s with delayLeft := some n } := by
  simp [stepDdWait, hd]

theorem stepDdWait_forever (hd : s.delayLeft = none) : stepDdWait s = s := by simp [stepDdWait, hd]

theorem afterDelay_retries (ha : s.attempts < s.budget) : afterDelay s = goto .ddSelect (delayCompletes s) := if_pos ha

theorem afterDelay_givesUp (ha : s.budget ≤ s.attempts) : afterDelay s = detectFails (delayCompletes s) :=
  if_neg (Nat.not_lt.mpr ha)

theorem stepDdRbR1_matches (hb : readByte .cylLow s = 0x12#8) : stepDdRbR1 s = goto .ddRbW2 (portRead .cylLow s) := if_pos hb

theorem stepDdRbR1_fails (hb : readByte .cylLow s ≠ 0x12#8) : stepDdRbR1 s = detectFails (portRead .cylLow s) := if_neg hb

end

/-- Settles O30: the three cases of the dispatch. -/
theorem detectDispatchesOnTheClass : Obligations.DetectDispatchesOnTheClass := by
  refine fun s hf => ⟨fun hl => ?_, fun hl => ?_, fun hn hr => ?_⟩
  · rw [blockStep_ddEval hf, stepDdEval_notReady hl, goto]
  · rw [blockStep_ddEval hf, stepDdEval_ready hl, goto]
  · rw [blockStep_ddEval hf, stepDdEval_fails hn hr, detectFails, goto]

/-- Settles O31: the request, and the cases of the wait by what is left of the delay. -/
theorem backoffThenRetryOrGiveUp : Obligations.BackoffThenRetryOrGiveUp := by
  refine ⟨fun s hf => ?_, fun s hf hd ha => ?_, fun s hf hd ha => ?_, fun s n hf hd => ?_, fun s hf hd => ?_⟩
  · exact blockStep_ddBackoff hf
  · rw [blockStep_ddWait hf, stepDdWait_completes hd, afterDelay_retries ha, goto, delayCompletes]
  · rw [blockStep_ddWait hf, stepDdWait_completes hd, afterDelay_givesUp ha, detectFails, goto, delayCompletes]
  · rw [blockStep_ddWait hf, stepDdWait_goesOn hd]
  · rw [blockStep_ddWait hf, stepDdWait_forever hd]

/-! ### The ways into the states of the read-back test (rules R144, R147, R148) -/

/-- The states in which an accepted host command, the end of an operation or the reset input leaves the block. -/
def Fsm.startsOrEnds (f : Fsm) : Bool := decide (f = .idle ∨ f = .psRead ∨ f = .erRead ∨ f = .ddSelect)

section
variable {s t : State} {f : Fsm}

/-- A host command leads to no other state than the first one of an operation. -/
theorem exec_fsm {i : Instr} (hi : i ≠ .ataIdentifyDevice) (h : exec i s = .next t) :
    t.fsm = s.fsm ∨ t.fsm.startsOrEnds = true := by
  obtain ⟨-, rfl⟩ | ⟨-, ⟨-, rfl⟩ | ⟨-, -, -, rfl⟩ | ⟨-, -, rfl⟩ | ⟨_, -, rfl⟩ | ⟨-, -, rfl⟩ | ⟨-, -, rfl⟩⟩ :=
    exec_cases hi h
  · exact .inl rfl
  · exact .inr rfl
  · exact .inr rfl
  · exact .inl rfl
  · exact .inr rfl
  · exact .inr rfl
  · exact .inl rfl

/-- A state in the middle of an operation is entered by a move of the block only. -/
theorem blockMove_of_enters (h : step s = .next t) (hs : s.fsm ≠ f) (ht : t.fsm = f) (hf : f.startsOrEnds = false) :
    ∃ u, (u = s ∨ u = popHost s) ∧ BlockMove u t := by
  have hstart : t.fsm.startsOrEnds ≠ true := Bool.eq_false_iff.mp (ht ▸ hf)
  obtain hm | ⟨w, i, _, -, hw, he⟩ | ⟨r, -, rfl⟩ | ⟨_, _, rfl⟩ | rfl | ⟨-, rfl⟩ := step_moves h
  · exact hm
  · obtain hsame | hstarts := exec_fsm (fun hi => decodeHost_ne_ata w (hi ▸ hw)) he
    · exact absurd (hsame.symm.trans ht) hs
    · exact absurd hstarts hstart
  · exact absurd ht hs
  · exact absurd ht hs
  · exact absurd ht hs
  · exact absurd rfl hstart

namespace BlockMove

theorem of_next_ddRbW1 (hm : BlockMove s t) (ht : t.fsm = .ddRbW1) : s.fsm = .ddEval ∧ s.lastClass = .ready := by
  cases hm
  case ddEval_ready hf hl => exact ⟨hf, hl⟩
  case idle hf | ddWait_goesOn _ hf _ | ddWait_forever hf _ => exact nomatch hf.symm.trans ht
  all_goals exact nomatch ht

theorem of_next_ddRbW2 (hm : BlockMove s t) (ht : t.fsm = .ddRbW2) : s.fsm = .ddRbR1 ∧ readByte .cylLow s = 0x12#8 := by
  cases hm
  case ddRbR1_match hf hb => exact ⟨hf, hb⟩
  case idle hf | ddWait_goesOn _ hf _ | ddWait_forever hf _ => exact nomatch hf.symm.trans ht
  all_goals exact nomatch ht

theorem of_next_ddRbR2 (hm : BlockMove s t) (ht : t.fsm = .ddRbR2) : s.fsm = .ddRbW2 := by
  cases hm
  case ddRbW2 hf => exact hf
  case idle hf | ddWait_goesOn _ hf _ | ddWait_forever hf _ => exact nomatch hf.symm.trans ht
  all_goals exact nomatch ht

/-- Every way to `DD_DONE` but the second read-back is a failure. -/
theorem detectOk_of_next_ddDone (hm : BlockMove s t) (ht : t.fsm = .ddDone) (hs : s.fsm ≠ .ddRbR2) : t.detectOk = false := by
  cases hm
  case ddEval_fails | ddWait_fails | ddRbR1_fails => rfl
  case ddRbR2 hf => exact absurd hf hs
  case idle hf | ddWait_goesOn _ hf _ | ddWait_forever hf _ => exact nomatch hf.symm.trans ht
  all_goals exact nomatch ht

end BlockMove

/-- Only the second read-back sets `s.detect_ok`: the reset input clears it, and every other step is an allowed write. -/
theorem detectOk_set_of_step (h : step s = .next t) (hs : s.detectOk = false) (ht : t.detectOk = true) :
    s.fsm = .ddRbR2 ∧ readByte .cylLow s = 0x34#8 := by
  by_cases hreset : ∃ rest, s.host = .reset :: rest
  · obtain ⟨rest, hh⟩ := hreset
    obtain rfl : assertReset (popHost s) = t := by simpa [step_reset hh] using h
    exact nomatch ht
  · exact (AllowedWrites.of_step h (not_exists.mp hreset)).detectOk_set hs ht

end

/-- Settles O32: the branches of the four states, and the one move into `DD_RB_W1`. -/
theorem readBackTest : Obligations.ReadBackTest := by
  refine ⟨fun s hf => ?_, fun s hf hb => ?_, fun s hf hb => ?_, fun s hf => ?_, fun s hf => ?_, fun s t h hs ht => ?_⟩
  · exact blockStep_ddRbW1 hf
  · have hv : readValue .cylLow s = 0x0012#16 := (readValue_eq_zext16 s (by decide)).trans (congrArg zext16 hb)
    rw [blockStep_ddRbR1 hf, stepDdRbR1_matches hb, portRead, hv, goto, bytes_cylLow]
  · rw [blockStep_ddRbR1 hf, stepDdRbR1_fails hb]
    rfl
  · exact blockStep_ddRbW2 hf
  · exact blockStep_ddRbR2 hf
  · obtain ⟨u, rfl | rfl, hm⟩ := blockMove_of_enters h hs ht rfl <;> exact hm.of_next_ddRbW1 ht

/-- Settles O33: the one writer of `s.detect_ok = 1`, and the moves into the states that lead to it and into `DD_DONE`. -/
theorem detectSucceedsOnlyThroughTheReadBack : Obligations.DetectSucceedsOnlyThroughTheReadBack := by
  refine ⟨fun s hf => blockStep_ddDone hf, fun s t h => detectOk_set_of_step h, fun s t h hs ht => ?_,
    fun s t h hs ht => ?_, fun s t h hs ht hr => ?_⟩
  · obtain ⟨u, rfl | rfl, hm⟩ := blockMove_of_enters h hs ht rfl <;> exact hm.of_next_ddRbR2 ht
  · obtain ⟨u, rfl | rfl, hm⟩ := blockMove_of_enters h hs ht rfl <;> exact hm.of_next_ddRbW2 ht
  · obtain ⟨u, rfl | rfl, hm⟩ := blockMove_of_enters h hs ht rfl <;> exact hm.detectOk_of_next_ddDone ht hr

end Sys2Proof.Machine
end

section
/-! SUPPORT. Runs of any length: where they lead, and that no step takes an event out of the trace. -/

namespace Sys2Proof.Machine

/-- Some number of steps leads from `s` to `t`. -/
def Reaches (s t : State) : Prop := ∃ k, steps k s = .next t

namespace Reaches

variable {s t u : State}

theorem refl (s : State) : Reaches s s := ⟨0, rfl⟩

theorem trans (h₁ : Reaches s t) (h₂ : Reaches t u) : Reaches s u := by
  obtain ⟨j, hj⟩ := h₁
  obtain ⟨k, hk⟩ := h₂
  exact ⟨j + k, (steps_add hj k).trans hk⟩

/-- While the outside does nothing, a step of the block's own is a run. -/
theorem of_blockStep (hh : s.host = []) (h : blockStep s = .next t) : Reaches s t :=
  ⟨1, steps_succ ((step_nil hh).trans h) 0⟩

end Reaches

theorem step_trace_suffix {s t : State} (h : step s = .next t) : s.trace <:+ t.trace := by
  obtain ht | ⟨e, ht⟩ := oneEventPerStep s t h
  · exact ht ▸ List.suffix_rfl
  · exact ⟨[e], ht.symm⟩

theorem steps_trace_suffix {k : Nat} {s t : State} (h : steps k s = .next t) : s.trace <:+ t.trace := by
  induction k generalizing s with
  | zero =>
    cases h
    exact List.suffix_rfl
  | succ k ih =>
    cases hs : step s with
    | next u => exact (step_trace_suffix hs).trans (ih (steps_succ hs k ▸ h))
    | fault r => simp [steps, hs] at h
    | refused r => simp [steps, hs] at h

/-! ### How many events of a kind -/

section
variable (p : Event → Bool)

theorem countEvents_cons (e : Event) (tr : List Event) : countEvents p (e :: tr) = (p e).toNat + countEvents p tr := by
  cases h : p e <;> simp [countEvents, h, Nat.add_comm]

theorem countEvents_append (new old : List Event) : countEvents p (new ++ old) = countEvents p new + countEvents p old := by
  simp [countEvents]

end

/-- One PollStatus sequence, for a test that no settle passes: its reads, the discard reads and the authoritative one. -/
theorem countEvents_pollTrace {p : Event → Bool} {isRead : Bool} (settleNs : Nat) (vs : List Byte) (b : Byte)
    (old : List Event) (hsettle : p (.settle settleNs) = false) (hread : ∀ v, p (.memRead .statusCommand 1 v) = isRead) :
    countEvents p (pollTrace settleNs vs b old) = (vs.length + 1) * isRead.toNat + countEvents p old := by
  rw [pollTrace, countEvents_cons, hread]
  induction vs generalizing old with
  | nil => simp
  | cons v vs ih =>
    rw [List.foldl_cons, ih, countEvents_cons, countEvents_cons, hsettle, hread, List.length_cons,
      Nat.succ_mul (vs.length + 1), Bool.toNat_false]
    omega

end Sys2Proof.Machine
end

section
/-! SUPPORT. One attempt of DETECT_DRIVE (rules R142 to R145), from `DD_SELECT` to the dispatch on the classification, and the
backoff after it. -/

namespace Sys2Proof.Machine

/-- The state in `DD_EVAL` after an attempt from `s`, with the discard reads `vs` and the authoritative read `b`. -/
def State.attempted (s : State) (vs : List Byte) (b : Byte) : State := goto .ddEval ((stepDdSelect s).polled vs b)

/-- The state in `DD_WAIT` after an attempt from `s` that ended NotReady. -/
def State.backedOff (s : State) (vs : List Byte) (b : Byte) : State := stepDdBackoff (goto .ddBackoff (s.attempted vs b))

/-- The trace of an attempt and its backoff on top of the trace of `s`. -/
def State.attemptTrace (s : State) (vs : List Byte) (b : Byte) : List Event :=
  .delayDone :: .delayRequest backoffSeconds backoffMicroseconds ::
    pollTrace s.params.tSettleNs vs b (.memWrite .driveHead 1 (zext16 (selByte s.selDrive)) :: s.trace)

section
variable (s : State) (vs : List Byte) (b : Byte)

@[simp] theorem backedOff_attempts : (s.backedOff vs b).attempts = s.attempts + 1 := rfl
@[simp] theorem backedOff_budget : (s.backedOff vs b).budget = s.budget := rfl
@[simp] theorem backedOff_params : (s.backedOff vs b).params = s.params := rfl
@[simp] theorem backedOff_draws : (s.backedOff vs b).draws = s.draws.drop (vs.length + 1) := rfl
@[simp] theorem backedOff_delays : (s.backedOff vs b).delays = s.delays.tail := rfl

theorem afterDelay_backedOff_trace : (afterDelay (s.backedOff vs b)).trace = s.attemptTrace vs b := afterDelay_trace _

end

section
variable {s : State}

/-- An attempt is the select write, a PollStatus sequence and its dispatch. -/
theorem reaches_attempted (hf : s.fsm = .ddSelect) (hh : s.host = []) (hn : 1 ≤ s.params.nDiscard) :
    ∃ (vs : List Byte) (b : Byte), vs.length = s.params.nDiscard ∧ ReadFrom s.draws (vs ++ [b]) ∧
      Reaches s (s.attempted vs b) := by
  obtain ⟨vs, b, hlen, hreads, hpoll⟩ := steps_polled_of_start (s := stepDdSelect s) rfl rfl hh hn
  have hselect : Reaches s (stepDdSelect s) := .of_blockStep hh (blockStep_ddSelect hf)
  have hdone : blockStep ((stepDdSelect s).polled vs b) = .next (s.attempted vs b) := by
    rw [blockStep_psDone (polled_fsm ..), stepPsDone_detect rfl, State.attempted]
  exact ⟨vs, b, hlen, hreads, (hselect.trans ⟨_, hpoll⟩).trans (.of_blockStep hh hdone)⟩

/-- The wait for a delay that goes on for `n` turns, by induction on `n`. -/
theorem reaches_afterDelay {n : Nat} (hf : s.fsm = .ddWait) (hh : s.host = []) (hd : s.delayLeft = some n) :
    Reaches s (afterDelay s) := by
  induction n generalizing s with
  | zero => exact .of_blockStep hh (by rw [blockStep_ddWait hf, stepDdWait_completes hd])
  | succ n ih =>
    have hturn : Reaches s { s with delayLeft := some n } :=
      .of_blockStep hh (by rw [blockStep_ddWait hf, stepDdWait_goesOn hd])
    exact hturn.trans (ih (s := { s with delayLeft := some n }) hf hh rfl)

/-- The backoff after NotReady, under a delay collaborator that completes the next request. -/
theorem reaches_afterBackoff {n : Nat} (hf : s.fsm = .ddEval) (hl : s.lastClass = .notReady) (hh : s.host = [])
    (hd : delayAnswer s = some n) : Reaches s (afterDelay (stepDdBackoff (goto .ddBackoff s))) := by
  have heval : Reaches s (goto .ddBackoff s) := .of_blockStep hh (by rw [blockStep_ddEval hf, stepDdEval_notReady hl])
  have hback : Reaches (goto .ddBackoff s) (stepDdBackoff (goto .ddBackoff s)) := .of_blockStep hh (blockStep_ddBackoff rfl)
  exact (heval.trans hback).trans (reaches_afterDelay rfl hh hd)

/-- The authoritative read is the answer after those of the discard reads. -/
theorem ReadFrom.eq_lo8 {draws : List Word} {vs : List Byte} {b : Byte} {v : Word} (h : ReadFrom draws (vs ++ [b]))
    (hv : draws[vs.length]? = some v) : b = lo8 v := by
  simpa using h vs.length v (by simp) hv

/-- `DD_DONE` ends the operation (rule R148). -/
theorem reaches_stepDdDone (hf : s.fsm = .ddDone) (hh : s.host = []) : Reaches s (stepDdDone s) :=
  .of_blockStep hh (blockStep_ddDone hf)

end

end Sys2Proof.Machine
end

section
/-! SUPPORT. DETECT_DRIVE under a persistent NotReady (rule R146): every attempt ends in a backoff, until the budget is used
up. -/

namespace Sys2Proof.Machine

/-! ### What one attempt adds to the trace -/

/-- An attempt with `n` discard reads, and its backoff, record `c` events that pass the test. -/
def AttemptRecords (p : Event → Bool) (n c : Nat) : Prop :=
  ∀ (s : State) (vs : List Byte) (b : Byte), vs.length = n →
    countEvents p (s.attemptTrace vs b) = c + countEvents p s.trace

/-- An attempt's delay request, status reads and select write are what a test can count that neither a settle nor the completion
of a delay passes. -/
theorem attemptRecords {p : Event → Bool} {isRead isWrite : Bool} (n : Nat) (hdone : p .delayDone = false)
    (hsettle : ∀ ns, p (.settle ns) = false) (hread : ∀ v, p (.memRead .statusCommand 1 v) = isRead)
    (hwrite : ∀ v, p (.memWrite .driveHead 1 v) = isWrite) :
    AttemptRecords p n
      ((p (.delayRequest backoffSeconds backoffMicroseconds)).toNat + (n + 1) * isRead.toNat + isWrite.toNat) := by
  intro s vs b hlen
  rw [State.attemptTrace, countEvents_cons, countEvents_cons, countEvents_pollTrace _ _ _ _ (hsettle _) hread,
    countEvents_cons, hdone, hwrite, hlen, Bool.toNat_false]
  omega

theorem attemptRecords_isSelectWrite (n : Nat) : AttemptRecords isSelectWrite n 1 := by
  simpa [isSelectWrite] using
    attemptRecords (p := isSelectWrite) n rfl (fun _ => rfl) (fun _ => rfl) (fun _ => rfl)

theorem attemptRecords_isStatusRead (n : Nat) : AttemptRecords isStatusRead n (n + 1) := by
  simpa [isStatusRead] using
    attemptRecords (p := isStatusRead) n rfl (fun _ => rfl) (fun _ => rfl) (fun _ => rfl)

theorem attemptRecords_isDelayRequest (n : Nat) : AttemptRecords isDelayRequest n 1 := by
  simpa [isDelayRequest] using
    attemptRecords (p := isDelayRequest) n rfl (fun _ => rfl) (fun _ => rfl) (fun _ => rfl)

/-! ### The attempts -/

/-- The device's listed answers and the listed delays of `n` attempts: NotReady bytes only, and every delay ends. -/
structure State.FacesNotReady (s : State) (n : Nat) : Prop where
  draws_length : s.draws.length = n * (s.params.nDiscard + 1)
  draws_notReady : ∀ v ∈ s.draws, classify (lo8 v) = .notReady
  delays_length : s.delays.length = n
  delays_end : ∀ d ∈ s.delays, d ≠ none

/-- `t` is in `DD_DONE` after `n` attempts from `s` that all ended NotReady. -/
structure State.GaveUp (s : State) (n : Nat) (t : State) : Prop where
  fsm : t.fsm = .ddDone
  host : t.host = []
  attempts : t.attempts = s.attempts + n
  detectOk : t.detectOk = false
  lastClass : t.lastClass = .notReady
  records : ∀ p c, AttemptRecords p s.params.nDiscard c → countEvents p t.trace = n * c + countEvents p s.trace

section
variable {s : State} {n : Nat}

/-- One attempt on a device that is NotReady leads through its backoff. -/
theorem State.FacesNotReady.reaches_backedOff (h : s.FacesNotReady (n + 1)) (hf : s.fsm = .ddSelect) (hh : s.host = [])
    (hn : 1 ≤ s.params.nDiscard) :
    ∃ (vs : List Byte) (b : Byte), vs.length = s.params.nDiscard ∧ classify b = .notReady ∧
      Reaches s (afterDelay (s.backedOff vs b)) := by
  obtain ⟨vs, b, hlen, hreads, hrun⟩ := reaches_attempted hf hh hn
  have hlt : vs.length < s.draws.length := by
    rw [h.draws_length, hlen]
    exact Nat.le_mul_of_pos_left _ n.succ_pos
  have hb : classify b = .notReady := by
    rw [hreads.eq_lo8 (List.getElem?_eq_getElem hlt)]
    exact h.draws_notReady _ (List.getElem_mem hlt)
  obtain ⟨d, rest, hd⟩ := List.exists_cons_of_length_eq_add_one h.delays_length
  obtain ⟨k, rfl⟩ := Option.ne_none_iff_exists'.mp (h.delays_end d (hd ▸ List.mem_cons_self))
  have hanswer : delayAnswer (s.attempted vs b) = some k := by
    have hdelays : (s.attempted vs b).delays = some k :: rest := hd
    rw [delayAnswer, hdelays]
  exact ⟨vs, b, hlen, hb, hrun.trans (reaches_afterBackoff rfl hb hh hanswer)⟩

/-- The answers and the delays that an attempt leaves. -/
theorem State.FacesNotReady.after {vs : List Byte} (h : s.FacesNotReady (n + 1)) (hlen : vs.length = s.params.nDiscard)
    (b : Byte) : (goto .ddSelect (delayCompletes (s.backedOff vs b))).FacesNotReady n where
  draws_length := by simp [h.draws_length, hlen, Nat.succ_mul]
  draws_notReady v hv := h.draws_notReady v (List.mem_of_mem_drop hv)
  delays_length := by simp [h.delays_length]
  delays_end d hd := h.delays_end d (List.mem_of_mem_tail hd)

/-- With `n + 1` attempts left in the budget, by induction on `n`. -/
theorem State.FacesNotReady.reaches_gaveUp (h : s.FacesNotReady (n + 1)) (hf : s.fsm = .ddSelect) (hh : s.host = [])
    (hn : 1 ≤ s.params.nDiscard) (hbudget : s.attempts + (n + 1) = s.budget) :
    ∃ t, Reaches s t ∧ s.GaveUp (n + 1) t := by
  induction n generalizing s with
  | zero =>
    obtain ⟨vs, b, hlen, hb, hrun⟩ := h.reaches_backedOff hf hh hn
    have hlast : (s.backedOff vs b).budget ≤ (s.backedOff vs b).attempts := hbudget.ge
    refine ⟨_, hrun, ?_⟩
    have hrecords (p c) (hp : AttemptRecords p s.params.nDiscard c) := hp s vs b hlen
    simp only [← afterDelay_backedOff_trace, afterDelay_givesUp hlast] at hrecords ⊢
    exact ⟨rfl, hh, rfl, rfl, hb, fun p c hp => by rw [hrecords p c hp, Nat.zero_add, Nat.one_mul]⟩
  | succ n ih =>
    obtain ⟨vs, b, hlen, hb, hrun⟩ := h.reaches_backedOff hf hh hn
    have hmore : (s.backedOff vs b).attempts < (s.backedOff vs b).budget := by
      simp only [backedOff_attempts, backedOff_budget]
      omega
    have hleft : (goto .ddSelect (delayCompletes (s.backedOff vs b))).attempts + (n + 1) = s.budget := by
      simp only [goto_attempts, delayCompletes_attempts, backedOff_attempts]
      omega
    have htrace := afterDelay_backedOff_trace s vs b
    rw [afterDelay_retries hmore] at hrun htrace
    obtain ⟨t, hreach, ht⟩ := ih (h.after hlen b) rfl hh hn hleft
    refine ⟨t, hrun.trans hreach, ⟨ht.fsm, ht.host, ?_, ht.detectOk, ht.lastClass, fun p c hp => ?_⟩⟩
    · rw [ht.attempts, hleft, hbudget]
    · rw [ht.records p c hp, htrace, hp s vs b hlen, Nat.succ_mul (n + 1), Nat.add_assoc]

end

/-- Settles O34: the budget is used up attempt by attempt (`reaches_gaveUp`), and `DD_DONE` ends the operation; what the run
adds to the trace is counted by the attempt. -/
theorem persistentNotReadyUsesTheBudget : Obligations.PersistentNotReadyUsesTheBudget := by
  intro s hf _ hh ha hbudget hn hdraws hclass hdelays hends
  obtain ⟨n, hbn⟩ : ∃ n, s.budget = n + 1 := Nat.exists_eq_succ_of_ne_zero (hbudget ▸ (budgetOf_pos s.selDrive).ne')
  have hfaces : s.FacesNotReady (n + 1) := hbn ▸ ⟨hdraws, hclass, hdelays, hends⟩
  obtain ⟨t, hreach, ht⟩ := hfaces.reaches_gaveUp hf hh hn (by omega)
  obtain ⟨k, hk⟩ := hreach.trans (reaches_stepDdDone ht.fsm ht.host)
  obtain ⟨new, hnew⟩ := steps_trace_suffix hk
  rw [stepDdDone_trace] at hnew
  have hcount (p c) (hp : AttemptRecords p s.params.nDiscard c) : countEvents p new = budgetOf s.selDrive * c := by
    have hall := ht.records p c hp
    rw [← hnew, countEvents_append, ← hbn, hbudget] at hall
    exact Nat.add_right_cancel hall
  refine ⟨k, _, new, hk, rfl, rfl, ?_, ht.detectOk, ht.detectOk, ht.lastClass, hnew.symm, ?_, ?_, ?_⟩
  · rw [← hbudget, hbn, ← Nat.zero_add (n + 1), ← ha]
    exact ht.attempts
  · exact (hcount _ _ (attemptRecords_isSelectWrite _)).trans (Nat.mul_one _)
  · exact hcount _ _ (attemptRecords_isStatusRead _)
  · exact (hcount _ _ (attemptRecords_isDelayRequest _)).trans (Nat.mul_one _)

end Sys2Proof.Machine
end

section
/-! SUPPORT. The run of the read-back test (rules R147, R148), and DETECT_DRIVE on a drive that is Ready at once. -/

namespace Sys2Proof.Machine

/-- The first value of the test, written and read back as 0x12. -/
def firstMatched (s : State) : State := goto .ddRbW2 (portRead .cylLow (stepDdRbW1 s))

/-- The first value of the test, written and read back as another value. -/
def firstFailed (s : State) : State := detectFails (portRead .cylLow (stepDdRbW1 s))

/-- The second value of the test, written and read back. -/
def secondReadBack (s : State) : State := stepDdRbR2 (stepDdRbW2 s)

/-- The end of the operation from a state `s` in `DD_RB_W1`, where the two reads return `r1` and, after 0x12, `r2`; the
answers left and the trace are those of `u`. -/
def State.readBack (s : State) (r1 r2 : Byte) (u : State) : State :=
  { s with
    device := { s.device with cylLow := if r1 = 0x12#8 then 0x34#8 else 0x12#8 }
    detectOk := decide (r1 = 0x12#8 ∧ r2 = 0x34#8)
    detected := decide (r1 = 0x12#8 ∧ r2 = 0x34#8)
    draws := u.draws
    trace := u.trace
    op := .none
    fsm := .idle }

section
variable {s : State}

theorem readByte_cons {r : DevReg} {v : Word} {vs : List Word} (h : s.draws = v :: vs) : readByte r s = lo8 v :=
  congrArg lo8 (answer_cons h)

theorem reaches_stepDdRbR1 (hf : s.fsm = .ddRbW1) (hh : s.host = []) : Reaches s (stepDdRbR1 (stepDdRbW1 s)) :=
  .trans (.of_blockStep hh (blockStep_ddRbW1 hf)) (.of_blockStep (s := stepDdRbW1 s) hh (blockStep_ddRbR1 rfl))

theorem reaches_secondReadBack (hf : s.fsm = .ddRbW2) (hh : s.host = []) : Reaches s (secondReadBack s) :=
  .trans (.of_blockStep hh (blockStep_ddRbW2 hf)) (.of_blockStep (s := stepDdRbW2 s) hh (blockStep_ddRbR2 rfl))

/-- The test on listed answers: the first mismatch ends it, and else the second read decides. -/
theorem reaches_readBack {r1 r2 : Word} (hf : s.fsm = .ddRbW1) (hh : s.host = []) (hd : s.draws = [r1, r2]) :
    ∃ u, Reaches s (s.readBack (lo8 r1) (lo8 r2) u) := by
  have hfirst := reaches_stepDdRbR1 hf hh
  have hread1 : readByte .cylLow (stepDdRbW1 s) = lo8 r1 := readByte_cons hd
  by_cases h1 : lo8 r1 = 0x12#8
  · have hread2 : readByte .cylLow (stepDdRbW2 (firstMatched s)) = lo8 r2 := readByte_cons (congrArg List.tail hd)
    rw [stepDdRbR1_matches (hread1.trans h1)] at hfirst
    have hsecond := reaches_secondReadBack (s := firstMatched s) rfl hh
    refine ⟨secondReadBack (firstMatched s), (hfirst.trans hsecond).trans ?_⟩
    simp only [State.readBack, h1, true_and, if_true, ← hread2]
    exact reaches_stepDdDone (s := secondReadBack (firstMatched s)) rfl hh
  · rw [stepDdRbR1_fails (hread1 ▸ h1)] at hfirst
    refine ⟨firstFailed s, hfirst.trans ?_⟩
    simp only [State.readBack, h1, false_and, if_false, decide_false]
    exact reaches_stepDdDone (s := firstFailed s) rfl hh

/-- The dispatch on Ready starts the test (rule R144). -/
theorem reaches_ddRbW1 (hf : s.fsm = .ddEval) (hl : s.lastClass = .ready) (hh : s.host = []) :
    Reaches s (goto .ddRbW1 s) :=
  .of_blockStep hh (by rw [blockStep_ddEval hf, stepDdEval_ready hl])

end

/-- Settles O36: one attempt, whose authoritative read takes the Ready byte, and the test on the two answers left. -/
theorem readyDriveIsDetectedByReadBack : Obligations.ReadyDriveIsDetectedByReadBack := by
  intro s ws b r1 r2 hf hh hn hws hdraws hready
  obtain ⟨vs, b', hlen, hreads, hattempt⟩ := reaches_attempted hf hh hn
  have hlen' : vs.length = ws.length := hlen.trans hws.symm
  obtain rfl : b' = lo8 b := hreads.eq_lo8 (by simp [hdraws, hlen'])
  have hleft : s.draws.drop (vs.length + 1) = [r1, r2] := by simp [hdraws, hlen']
  have htest := reaches_ddRbW1 (s := s.attempted vs (lo8 b)) rfl hready hh
  obtain ⟨u, hread⟩ := reaches_readBack (s := goto .ddRbW1 (s.attempted vs (lo8 b))) rfl hh hleft
  obtain ⟨k, hk⟩ := (hattempt.trans htest).trans hread
  refine ⟨k, _, hk, rfl, rfl, decide_eq_true_iff, rfl, rfl, rfl, ?_, rfl, rfl, rfl⟩
  rw [← lo8_zext16 (selByte s.selDrive)]
  rfl

end Sys2Proof.Machine
end

section
/-! SUPPORT. The Identify Parser, one state at a time (rules R170 to R173, R176): the acceptance of IDENTIFY_DEVICE, the device
command, the dispatch after each of the two polls, and the end of the operation. -/

namespace Sys2Proof.Machine

section
variable {s : State}

/-! ### The acceptance and the device command (rules R170, R172) -/

/-- The start of an accepted IDENTIFY_DEVICE. -/
def startIdentify (s : State) : State :=
  startPoll .idPre { s with op := .identifyDevice, identValid := false, errValid := false, xferK := 0 }

theorem exec_identifyDevice_of_idle (hf : s.fsm = .idle) :
    exec .identifyDevice s = .next (if s.detected then startIdentify s else refuse .identifyWithoutDetect s) :=
  congrArg Host.Outcome.next (accept_of_idle hf)

theorem exec_identifyDevice_detected (hf : s.fsm = .idle) (hd : s.detected = true) :
    exec .identifyDevice s = .next (startIdentify s) := by
  rw [exec_identifyDevice_of_idle hf, if_pos hd]

/-- The block's write of the command register, as the device keeps it and as the trace records it. -/
theorem portWrite_cmdIdentify (s : State) :
    portWrite .statusCommand (zext16 cmdIdentify) s = { s with
      device := { s.device with command := 0xEC#8 }
      trace := .memWrite .statusCommand 1 0x00EC#16 :: s.trace } := by
  rw [portWrite, DeviceRegs.write, lo8_zext16]
  rfl

/-! ### The dispatch after each poll (rules R171, R173) -/

theorem stepPsDone_idPre (hc : s.psCtx = .idPre) : stepPsDone s = afterPrePoll s := by simp [stepPsDone, hc]

theorem stepPsDone_idPost (hc : s.psCtx = .idPost) : stepPsDone s = afterPostPoll s := by simp [stepPsDone, hc]

theorem afterPrePoll_busy (hl : s.lastClass = .busy) : afterPrePoll s = goto .idPreLog s := if_pos hl

theorem afterPrePoll_other (hl : s.lastClass ≠ .busy) : afterPrePoll s = goto .idCmd s := if_neg hl

theorem afterPostPoll_busy (hl : s.lastClass = .busy) :
    afterPostPoll s = if s.params.logPostBusy then goto .idPostLog s else startPoll .idPost s := if_pos hl

theorem afterPostPoll_error (hl : s.lastClass = .error) : afterPostPoll s = startErrorReport .ident s := by
  simp [afterPostPoll, hl]

theorem afterPostPoll_other (hb : s.lastClass ≠ .busy) (he : s.lastClass ≠ .error) : afterPostPoll s = startTransfer s :=
  (if_neg hb).trans (if_neg he)

end

/-- Settles O16: the acceptance's one check, of `s.detected`. -/
theorem identifyDeviceIsAccepted : Obligations.IdentifyDeviceIsAccepted := by
  refine fun s hf => ⟨fun hd => ?_, exec_identifyDevice_detected hf⟩
  rw [exec_identifyDevice_of_idle hf, if_neg (Bool.eq_false_iff.mp hd), refuse]

/-- Settles O17: the command write, then the start of the post-command poll. -/
theorem ataIdentifyDeviceIsIssued : Obligations.AtaIdentifyDeviceIsIssued := by
  refine ⟨fun s => ?_, fun s hf => blockStep_idCmd hf⟩
  rw [exec_ataIdentifyDevice, portWrite_cmdIdentify, startPoll]

/-- Settles O37: the two branches of the pre-command dispatch, and the way back into its poll. -/
theorem preCommandLoop : Obligations.PreCommandLoop := by
  refine ⟨fun s hf hc => ⟨fun hl => ?_, fun hl => ?_⟩, fun s hf => blockStep_idPreLog hf⟩
  · rw [blockStep_psDone hf, stepPsDone_idPre hc, afterPrePoll_busy hl, goto]
  · rw [blockStep_psDone hf, stepPsDone_idPre hc, afterPrePoll_other hl, goto]

/-- Settles O38: the four branches of the post-command dispatch, and the way back into its poll. The poll that Busy starts
without a log keeps the context it has. -/
theorem postCommandLoop : Obligations.PostCommandLoop := by
  refine ⟨fun s hf hc => ?_, fun s hf => blockStep_idPostLog hf⟩
  rw [blockStep_psDone hf, stepPsDone_idPost hc]
  refine ⟨fun hl hp => ?_, fun hl hp => ?_, fun hl => ?_, fun hb he => ?_⟩
  · rw [afterPostPoll_busy hl, if_pos hp, goto]
  · rw [afterPostPoll_busy hl, if_neg (Bool.eq_false_iff.mp hp), startPoll, ← hc]
  · rw [afterPostPoll_error hl, startErrorReport]
  · rw [afterPostPoll_other hb he, startTransfer]

/-- Settles O41: each of the three states has one way out. -/
theorem identifyCompletion : Obligations.IdentifyCompletion :=
  ⟨fun _ hf => blockStep_idFields hf, fun _ hf => blockStep_idDump hf, fun _ hf => blockStep_idDone hf⟩

end Sys2Proof.Machine
end

section
/-! SUPPORT. The field views of the identify buffer as numbers (rules R179 to R187), and the strings extracted from it (rules
R181 to R184). -/

namespace Sys2Proof.Machine

/-! ### The fields -/

/-- Bit `i` of a word, on the word as a number. -/
theorem getLsbD_iff_toNat {n : Nat} (w : BitVec n) (i : Nat) : w.getLsbD i = true ↔ w.toNat / 2 ^ i % 2 = 1 := by
  rw [BitVec.getLsbD, Nat.testBit_eq_decide_div_mod_eq, decide_eq_true_iff]

/-- The LBA total is the double word of `W[61]` and `W[60]`, all 32 bits of it (rule R186). -/
theorem lba28Total_toNat (w : Vector Word 256) :
    (lba28Total w).toNat = (wordAt w 61).toNat * 65536 + (wordAt w 60).toNat := by
  rw [← lba28Total_low, ← lba28Total_high, BitVec.extractLsb'_toNat, BitVec.extractLsb'_toNat]
  omega

/-- Settles O42: the words as they stand, the flags as bits of theirs, and the LBA total. -/
theorem fieldViews : Obligations.FieldViews := fun _ _ =>
  ⟨rfl, getLsbD_iff_toNat _ _, getLsbD_iff_toNat _ _, rfl, rfl, rfl, rfl, getLsbD_iff_toNat _ 9, getLsbD_iff_toNat _ 8,
    lba28Total_toNat _, rfl, getLsbD_iff_toNat _ 10⟩

/-! ### The strings -/

/-- In a list that begins with `n` pairs written out, pair `j` stands at `2j` and `2j + 1`. -/
theorem getElem?_flatMap_pair {α : Type} (lo hi : Nat → α) (rest : List α) {n j : Nat} (hj : j < n) :
    (((List.range n).flatMap fun i => [lo i, hi i]) ++ rest)[2 * j]? = some (lo j) ∧
      (((List.range n).flatMap fun i => [lo i, hi i]) ++ rest)[2 * j + 1]? = some (hi j) := by
  induction n generalizing lo hi j with
  | zero => exact absurd hj (Nat.not_lt_zero j)
  | succ n ih =>
    rw [List.range_succ_eq_map, List.flatMap_cons, List.flatMap_map]
    cases j with
    | zero => exact ⟨rfl, rfl⟩
    | succ j => exact ih (lo ∘ Nat.succ) (hi ∘ Nat.succ) (Nat.lt_of_succ_lt_succ hj)

section
variable (w : Vector Word 256) (base n : Nat)

/-- The bytes of word `base + j`, low byte first. -/
theorem strField_getElem? {j : Nat} (hj : j < n) :
    (strField w base n)[2 * j]? = some (lo8 (wordAt w (base + j))) ∧
      (strField w base n)[2 * j + 1]? = some (hi8 (wordAt w (base + j))) :=
  getElem?_flatMap_pair (fun i => lo8 (wordAt w (base + i))) (fun i => hi8 (wordAt w (base + i))) _ hj

theorem strField_terminator : (strField w base n)[2 * n]? = some 0x00#8 := by
  have hlast : (strField w base n).length - 1 = 2 * n := by rw [strField_length, Nat.add_sub_cancel]
  rw [← hlast, ← List.getLast?_eq_getElem?, strField, List.getLast?_concat]

end

/-- Where there is a 0x00, `display` ends at the first one. -/
theorem display_eq_take {out : List Byte} (h : 0x00#8 ∈ out) : ∃ z, out[z]? = some 0x00#8 ∧
    (∀ i, i < z → out[i]? ≠ some 0x00#8) ∧ display out = out.take z := by
  have hz := List.findIdx_lt_length_of_exists (p := fun b => !decide (b ≠ 0x00#8)) ⟨_, h, rfl⟩
  refine ⟨_, List.getElem?_eq_some_iff.mpr ⟨hz, ?_⟩, fun i hi => ?_, List.takeWhile_eq_take_findIdx_not⟩
  · simpa using List.findIdx_getElem (w := hz)
  · have hb := List.not_of_lt_findIdx hi
    rw [List.getElem?_eq_getElem (hi.trans hz)]
    simpa using hb

/-- Settles O43: byte by byte; the terminator is the 0x00 at which `display` ends at the latest. -/
theorem stringExtraction : Obligations.StringExtraction :=
  ⟨fun w base n => ⟨strField_length w base n, fun _ => strField_getElem? w base n, strField_terminator w base n⟩,
    fun w base n => display_eq_take (List.mem_of_getElem? (strField_terminator w base n)),
    fun _ => ⟨rfl, rfl, rfl⟩, fun _ _ => ⟨rfl, rfl, rfl⟩⟩

end Sys2Proof.Machine
end

section
/-! SUPPORT. The identify transfer (rule R175): the words its reads return, the buffer they leave, and its run. -/

namespace Sys2Proof.Machine

/-! ### The buffer after several words -/

/-- The buffer with the words `ws` stored from index `k` on. -/
def storeWords (w : Vector Word 256) (k : Nat) : List Word → Vector Word 256
  | [] => w
  | v :: ws => storeWords (w.setIfInBounds k v) (k + 1) ws

theorem wordAt_storeWords_before (w : Vector Word 256) {k j : Nat} (ws : List Word) (hj : j < k) :
    wordAt (storeWords w k ws) j = wordAt w j := by
  induction ws generalizing w k with
  | nil => rfl
  | cons v ws ih => rw [storeWords, ih _ (Nat.lt_succ_of_lt hj), wordAt_set_other w v hj.ne]

/-- Word `j` of those stored from index `k` on is word `k + j` of the buffer. -/
theorem getElem?_eq_wordAt_storeWords (w : Vector Word 256) {k j : Nat} {ws : List Word} (hk : k + ws.length ≤ 256)
    (hj : j < ws.length) : ws[j]? = some (wordAt (storeWords w k ws) (k + j)) := by
  induction ws generalizing w k j with
  | nil => exact absurd hj (Nat.not_lt_zero j)
  | cons v ws ih =>
    rw [List.length_cons] at hk hj
    cases j with
    | zero =>
      rw [storeWords, Nat.add_zero k, wordAt_storeWords_before _ ws k.lt_add_one, wordAt_set_same w v (by omega),
        List.getElem?_cons_zero]
    | succ j =>
      rw [storeWords, ← Nat.succ_add_eq_add_succ k j, ← ih _ (by omega) (Nat.lt_of_succ_lt_succ hj),
        List.getElem?_cons_succ]

/-- A whole transfer: word `j` read is word `j` of the buffer. -/
theorem getElem?_eq_wordAt_storeWords_zero (w : Vector Word 256) {ws : List Word} {j : Nat} (hlen : ws.length = 256)
    (hj : j < 256) : ws[j]? = some (wordAt (storeWords w 0 ws) j) := by
  rw [getElem?_eq_wordAt_storeWords w (k := 0) (by omega) (hlen.symm ▸ hj), Nat.zero_add]

/-! ### The words read -/

/-- A data read that is not the transfer's last. -/
def storeNext (s : State) : State := goto .idXfer (storeWord s)

/-- The values of `n` data reads in a row: the device's listed answers, and free values past the end of the list. -/
def dataReads : Nat → State → List Word
  | 0, _ => []
  | n + 1, s => answer .data s :: dataReads n (storeNext s)

theorem dataReads_length (n : Nat) (s : State) : (dataReads n s).length = n := by
  induction n generalizing s with
  | zero => rfl
  | succ n ih => rw [dataReads, List.length_cons, ih]

theorem dataReads_getElem? {n k : Nat} {s : State} {v : Word} (hk : k < n) (hv : s.draws[k]? = some v) :
    (dataReads n s)[k]? = some v := by
  induction n generalizing k s with
  | zero => exact absurd hk (Nat.not_lt_zero k)
  | succ n ih =>
    cases hd : s.draws with
    | nil => simp [hd] at hv
    | cons u us =>
      rw [hd] at hv
      cases k with
      | zero => rw [dataReads, answer_cons hd, List.getElem?_cons_zero, ← hv, List.getElem?_cons_zero]
      | succ k => exact ih (s := storeNext s) (Nat.lt_of_succ_lt_succ hk) ((congrArg (·.tail[k]?) hd).trans hv)

/-- Where the answers are listed, they are the words read. -/
theorem dataReads_eq_draws (s : State) : dataReads s.draws.length s = s.draws :=
  List.ext_getElem (dataReads_length ..) fun _ _ hk =>
    (List.getElem_eq_iff _).mpr (dataReads_getElem? hk (List.getElem?_eq_getElem hk))

/-! ### The run -/

/-- The end of a transfer from `s` that reads the words `ws`. -/
def State.transferred (s : State) (ws : List Word) : State :=
  { s with
    identW := storeWords s.identW s.xferK ws
    xferK := s.xferK + ws.length
    identValid := true
    draws := s.draws.drop ws.length
    trace := (ws.map fun w => .memRead .data 2 w).reverse ++ s.trace
    fsm := if s.lastClass = .error then .idDump else .idFields }

section
variable {s : State}

theorem transferDone_storeWord (s : State) : transferDone (storeWord s) = s.transferred [answer .data s] := by
  simp only [State.transferred, List.length_singleton, List.drop_one]
  rfl

theorem transferred_storeNext (s : State) (ws : List Word) :
    (storeNext s).transferred ws = s.transferred (answer .data s :: ws) := by
  have hcount : s.xferK + 1 + ws.length = s.xferK + (ws.length + 1) := Nat.succ_add_eq_add_succ ..
  have hdraws : s.draws.tail.drop ws.length = s.draws.drop (ws.length + 1) := List.drop_tail
  simp only [State.transferred, List.length_cons, List.map_cons, List.reverse_cons, List.append_assoc, ← hcount, ← hdraws]
  rfl

theorem step_idXfer_more (hf : s.fsm = .idXfer) (hh : s.host = []) (hk : s.xferK + 1 < 256) :
    step s = .next (storeNext s) := by
  rw [step_nil hh, blockStep_idXfer hf]
  exact (if_pos (Nat.lt_of_succ_lt hk)).trans (if_pos hk)

theorem step_idXfer_last (hf : s.fsm = .idXfer) (hh : s.host = []) (hk : s.xferK + 1 = 256) :
    step s = .next (s.transferred [answer .data s]) := by
  rw [step_nil hh, blockStep_idXfer hf, ← transferDone_storeWord]
  exact (if_pos (show s.xferK < 256 by omega)).trans (if_neg hk.not_lt)

/-- With `n + 1` words left, by induction on `n`: one word a step, and the last one ends the transfer. -/
theorem steps_transferred (n : Nat) (hf : s.fsm = .idXfer) (hh : s.host = []) (hk : s.xferK + (n + 1) = 256) :
    steps (n + 1) s = .next (s.transferred (dataReads (n + 1) s)) := by
  induction n generalizing s with
  | zero => exact steps_succ (step_idXfer_last hf hh hk) 0
  | succ n ih =>
    have hleft : (storeNext s).xferK + (n + 1) = 256 := (Nat.succ_add_eq_add_succ ..).trans hk
    rw [steps_succ (step_idXfer_more hf hh (by omega)), ih (s := storeNext s) rfl hh hleft, transferred_storeNext]
    rfl

end

/-- Settles O40: the run `steps_transferred` with all 256 words left. -/
theorem transferReads256Words : Obligations.TransferReads256Words := by
  intro s hf hk hh
  have hlen : (dataReads 256 s).length = 256 := dataReads_length 256 s
  refine ⟨dataReads 256 s, storeWords s.identW 0 (dataReads 256 s), hlen,
    fun _ => getElem?_eq_wordAt_storeWords_zero s.identW hlen, fun _ _ => dataReads_getElem?, ?_⟩
  rw [steps_transferred 255 hf hh (by omega), State.transferred, hlen, hk]

end Sys2Proof.Machine
end

section
/-! SUPPORT. IDENTIFY_DEVICE from the host's write to its end (rules R170 to R176, R190), on a device that is not Busy and whose
class after the command is not Error. -/

namespace Sys2Proof.Machine

/-! ### A PollStatus sequence on listed answers -/

theorem ReadFrom.eq_map_lo8 {ws rest : List Word} {bytes : List Byte} (h : ReadFrom (ws ++ rest) bytes)
    (hlen : bytes.length = ws.length) : bytes = ws.map lo8 := by
  refine List.ext_getElem (by rw [hlen, List.length_map]) fun k hk hk' => ?_
  rw [List.length_map] at hk'
  have hv : (ws ++ rest)[k]? = some ws[k] := by rw [List.getElem?_append_left hk', List.getElem?_eq_getElem hk']
  rw [List.getElem_map, List.getElem_eq_iff, h k _ hk hv]

section
variable {s : State}

/-- A whole sequence, where the device's next answers are `vs` to its discard reads and `b` to the authoritative one. -/
theorem reaches_polled {vs rest : List Word} {b : Word} (hf : s.fsm = .psRead) (hc : s.psCount = 0) (hh : s.host = [])
    (hn : 1 ≤ s.params.nDiscard) (hlen : vs.length = s.params.nDiscard) (hd : s.draws = vs ++ b :: rest) :
    Reaches s (s.polled (vs.map lo8) (lo8 b)) := by
  obtain ⟨us, c, hus, hreads, hsteps⟩ := steps_polled_of_start hf hc hh hn
  have hdraws : s.draws = (vs ++ [b]) ++ rest := by rw [hd, List.append_assoc, List.singleton_append]
  have hbytes : us ++ [c] = vs.map lo8 ++ [lo8 b] := by
    rw [hdraws] at hreads
    simpa using hreads.eq_map_lo8 (by simp [hus, hlen])
  obtain ⟨rfl, hb⟩ := List.append_inj' hbytes rfl
  obtain rfl : c = lo8 b := List.singleton_inj.mp hb
  exact ⟨_, hsteps⟩

/-! ### The parts of the operation -/

/-- The host's write of IDENTIFY_DEVICE in `IDLE`, its last action, with a detected drive. -/
theorem reaches_startIdentify (hh : s.host = [.write 0x000 0x0004#16]) (hf : s.fsm = .idle) (hd : s.detected = true) :
    Reaches s (startIdentify { s with host := [] }) := by
  have hstart : exec .identifyDevice (popHost s) = .next (startIdentify (popHost s)) := exec_identifyDevice_detected hf hd
  refine ⟨1, steps_succ ?_ 0⟩
  rw [step_write hh, hostWrite, if_pos rfl, hostCommand_ok (i := .identifyDevice) rfl, hstart, popHost_eq hh]

/-- The state after the device command from `s`. -/
def commandIssued (s : State) : State := startPoll .idPost (portWrite .statusCommand (zext16 cmdIdentify) s)

/-- From a pre-command poll that did not end Busy to the start of the post-command poll. -/
theorem reaches_commandIssued (hf : s.fsm = .psDone) (hc : s.psCtx = .idPre) (hh : s.host = []) (hl : s.lastClass ≠ .busy) :
    Reaches s (commandIssued s) := by
  have hdone : Reaches s (goto .idCmd s) :=
    .of_blockStep hh (by rw [blockStep_psDone hf, stepPsDone_idPre hc, afterPrePoll_other hl])
  exact hdone.trans (.of_blockStep (s := goto .idCmd s) hh (blockStep_idCmd rfl))

/-- The state in `ID_FIELDS` after a transfer that read the words `ws`. -/
def State.wordsRead (s : State) (ws : List Word) : State :=
  { s with
    identW := storeWords s.identW 0 ws
    xferK := 256
    identValid := true
    draws := []
    trace := (ws.map fun w => .memRead .data 2 w).reverse ++ s.trace
    fsm := .idFields }

/-- From a post-command poll that ended neither Busy nor Error to the end of the transfer, with 256 answers left. -/
theorem reaches_wordsRead (hf : s.fsm = .psDone) (hc : s.psCtx = .idPost) (hh : s.host = []) (hb : s.lastClass ≠ .busy)
    (he : s.lastClass ≠ .error) (hd : s.draws.length = 256) : Reaches s (s.wordsRead s.draws) := by
  have hdone : Reaches s (startTransfer s) :=
    .of_blockStep hh (by rw [blockStep_psDone hf, stepPsDone_idPost hc, afterPostPoll_other hb he])
  have hreads : dataReads 256 (startTransfer s) = s.draws := hd ▸ dataReads_eq_draws (startTransfer s)
  have hend : (startTransfer s).transferred s.draws = s.wordsRead s.draws := by
    have hrest : (startTransfer s).draws.drop 256 = [] := List.drop_of_length_le hd.le
    have hgood : (startTransfer s).lastClass ≠ .error := he
    rw [State.transferred, hd, hrest, if_neg hgood]
    rfl
  exact hdone.trans ⟨256, hend ▸ hreads ▸ steps_transferred 255 rfl hh rfl⟩

/-- The report, the dump and the end (rule R176). -/
theorem reaches_finish (hf : s.fsm = .idFields) (hh : s.host = []) :
    Reaches s (stepIdDone (stepIdDump (stepIdFields s))) :=
  .trans (.of_blockStep hh (blockStep_idFields hf)) (.trans (.of_blockStep (s := stepIdFields s) hh (blockStep_idDump rfl))
    (.of_blockStep (s := stepIdDump (stepIdFields s)) hh (blockStep_idDone rfl)))

/-- The state after the pre-command poll of an IDENTIFY_DEVICE that is the host's last action in `s`: discard reads `vs`,
authoritative read `b`. -/
def State.prePolled (s : State) (vs : List Byte) (b : Byte) : State := (startIdentify { s with host := [] }).polled vs b

/-- The state after its post-command poll: discard reads `us`, authoritative read `c`. -/
def State.bothPolled (s : State) (vs : List Byte) (b : Byte) (us : List Byte) (c : Byte) : State :=
  (commandIssued (s.prePolled vs b)).polled us c

/-- From the host's write to the end of the post-command poll; the answers left are those to the transfer. -/
theorem reaches_bothPolled {vs us ws : List Word} {b c : Word} (hf : s.fsm = .idle) (hd : s.detected = true)
    (hh : s.host = [.write 0x000 0x0004#16]) (hn : 1 ≤ s.params.nDiscard) (hvs : vs.length = s.params.nDiscard)
    (hus : us.length = s.params.nDiscard) (hdraws : s.draws = vs ++ b :: (us ++ c :: ws))
    (hb : classify (lo8 b) ≠ .busy) :
    Reaches s (s.bothPolled (vs.map lo8) (lo8 b) (us.map lo8) (lo8 c)) ∧
      (s.bothPolled (vs.map lo8) (lo8 b) (us.map lo8) (lo8 c)).draws = ws := by
  have hpre : Reaches s (s.prePolled (vs.map lo8) (lo8 b)) :=
    (reaches_startIdentify hh hf hd).trans (reaches_polled rfl rfl rfl hn hvs hdraws)
  have hcmd := reaches_commandIssued (s := s.prePolled (vs.map lo8) (lo8 b)) rfl rfl rfl hb
  have hleft : s.draws.drop ((vs.map lo8).length + 1) = us ++ c :: ws := by simp [hdraws]
  have hpost : Reaches (commandIssued (s.prePolled (vs.map lo8) (lo8 b))) _ := reaches_polled rfl rfl rfl hn hus hleft
  have hrest : (us ++ c :: ws).drop ((us.map lo8).length + 1) = ws := by simp
  exact ⟨(hpre.trans hcmd).trans hpost, (congrArg (List.drop _) hleft).trans hrest⟩

end

/-- Settles O45: the two polls, the transfer of the 256 answers left, and the three states of its completion; the host reads
the buffer through the IDENT_WORD window. -/
theorem identifyRunsToItsEnd : Obligations.IdentifyRunsToItsEnd := by
  intro s vs us ws b c hf hd hh hn hvs hus hws hdraws hb hcb hce
  obtain ⟨hpolls, hleft⟩ := reaches_bothPolled hf hd hh hn hvs hus hdraws hb
  have hread := reaches_wordsRead (s := s.bothPolled (vs.map lo8) (lo8 b) (us.map lo8) (lo8 c)) rfl rfl rfl hcb hce
    (hleft.symm ▸ hws)
  rw [hleft] at hread
  obtain ⟨k, hk⟩ := (hpolls.trans hread).trans (reaches_finish rfl rfl)
  refine ⟨k, _, storeWords s.identW 0 ws, hk, fun j hj => ?_, ?_⟩
  · exact ⟨getElem?_eq_wordAt_storeWords_zero s.identW hws hj, hostReg_of_identReg (by omega) (identReg_identWord _ hj)⟩
  · have hcount : 0 + (us.map lo8).length = s.params.nDiscard := by rw [List.length_map, hus, Nat.zero_add]
    simp only [hf, ← hcount]
    rfl

end Sys2Proof.Machine
end

section
/-! SUPPORT. Runs that go on (rules R210, R214, R218, R243): every turn of the host port and, from a state that meets the
invariant, every step of the block gives a next state; and the two states in which the block waits. -/

namespace Sys2Proof.Machine

section
variable {s : State}

/-! ### A next state for every turn -/

theorem hostWrite_next (a : Nat) (v : Word) (s : State) : ∃ t, hostWrite a v s = .next t := by
  unfold hostWrite
  split
  · obtain ⟨i, -, hc⟩ | ⟨e, -, hc⟩ := hostCommand_cases v s
    · exact hc ▸ exec_next i s
    · exact ⟨_, hc⟩
  · exact ⟨_, rfl⟩

/-- Where the block's own step gives a next state, so does the turn: the outside's actions always do. -/
theorem step_next (hb : ∀ u, u = s ∨ u = popHost s → ∃ t, blockStep u = .next t) : ∃ t, step s = .next t := by
  cases hh : s.host with
  | nil => exact step_nil hh ▸ hb s (.inl rfl)
  | cons action rest =>
    cases action with
    | write a v => exact step_write hh ▸ hostWrite_next a v (popHost s)
    | read a => exact ⟨_, step_read hh⟩
    | waitIdle =>
      rw [step_waitIdle hh]
      split
      · exact hb s (.inl rfl)
      · exact ⟨_, rfl⟩
    | pass => exact step_pass hh ▸ hb _ (.inr rfl)
    | reset => exact ⟨_, step_reset hh⟩

/-- Neither fault is raised where the invariant holds: `ER_EMIT` has a bit to report and `ID_XFER` a word to store to. -/
theorem State.Inv.blockStep_next (h : s.Inv) : ∃ t, blockStep s = .next t := by
  cases hf : s.fsm
  case erEmit =>
    rw [blockStep_erEmit hf]
    obtain ⟨-, he⟩ | ⟨j, -, -, he⟩ | ⟨h0, hn, -⟩ := stepErEmit_cases s
    · exact ⟨_, he⟩
    · exact ⟨_, he⟩
    · exact absurd (h.erEmit_bit hf) (not_or.mpr ⟨h0, not_not.mpr hn⟩)
  case idXfer =>
    rw [blockStep_idXfer hf]
    obtain ⟨-, he⟩ | ⟨-, he⟩ | ⟨hk, -⟩ := stepIdXfer_cases s
    · exact ⟨_, he⟩
    · exact ⟨_, he⟩
    · exact absurd (h.xferK_lt hf) hk.not_gt
  case idCmd => exact blockStep_idCmd hf ▸ exec_next _ s
  all_goals simp [blockStep, hf]

theorem State.Inv.step_next (h : s.Inv) : ∃ t, step s = .next t :=
  Machine.step_next fun u hu => by
    obtain rfl | rfl := hu
    · exact h.blockStep_next
    · exact h.popHost.blockStep_next

/-! ### Runs -/

/-- What always leads to a next state with the same property does so for every number of steps. -/
theorem steps_next {P : State → Prop} (hP : ∀ s, P s → ∃ t, step s = .next t ∧ P t) (k : Nat) (h : P s) :
    ∃ t, steps k s = .next t ∧ P t := by
  induction k generalizing s with
  | zero => exact ⟨s, rfl, h⟩
  | succ k ih =>
    obtain ⟨t, hs, ht⟩ := hP s h
    exact steps_succ hs k ▸ ih ht

theorem steps_of_step_self (h : step s = .next s) (k : Nat) : steps k s = .next s := by
  induction k with
  | zero => rfl
  | succ k ih => exact (steps_succ h k).trans ih

end

/-- Settles O59: a state that meets the invariant has a next state (`State.Inv.step_next`), and every step keeps the
invariant. -/
theorem invariantStatesNeverStop : Obligations.InvariantStatesNeverStop := fun k _ =>
  steps_next (P := State.Inv) (fun s h => h.step_next.imp fun t hs => ⟨hs, everyStepKeepsTheInvariant s t h hs⟩) k

/-- Settles O56: in both states the step of the block changes nothing. -/
theorem waitsWithoutBound : Obligations.WaitsWithoutBound := by
  refine fun s k hh => ⟨fun hf => ?_, fun hf hd => ?_⟩
  · exact steps_of_step_self ((step_nil hh).trans (blockStep_idle hf)) k
  · exact steps_of_step_self (by rw [step_nil hh, blockStep_ddWait hf, stepDdWait_forever hd]) k

end Sys2Proof.Machine
end

section
/-! SUPPORT. Which instruction a step runs (rules R86, R172, R230): the one the host's word decodes to, the device command in
`ID_CMD`, and the one a placed word decodes to. -/

namespace Sys2Proof.Machine

section
variable {s : State} {w : Word} {rest : List HostAction}

theorem step_write_command {i : Instr} (hh : s.host = .write 0x000 w :: rest) (hw : decodeHost w = .ok i) :
    step s = exec i { s with host := rest } := by
  rw [step_write hh, hostWrite, if_pos rfl, hostCommand_ok hw, popHost_eq hh]

end

theorem decodeTableWord_eq_some {nbits w : Nat} {i : Instr} (h : decodeTableWord nbits w = some i) :
    ∃ c, tableCode nbits w = some c ∧ decode c = .ok i := by
  unfold decodeTableWord at h
  split at h
  · nomatch h
  · rename_i c hc
    split at h
    · rename_i hd
      exact ⟨c, hc, Option.some.inj h ▸ hd⟩
    · nomatch h

theorem decodeDevice_eq_ok {b : Byte} {i : Instr} (h : decodeDevice b = .ok i) : b = cmdIdentify ∧ i = .ataIdentifyDevice := by
  unfold decodeDevice at h
  split_ifs at h with hb
  cases h
  exact ⟨hb, rfl⟩

theorem placeCode_host (w : Word) (s : State) : placeCode (.host w) s = { s with host := .write 0x000 w :: s.host } := rfl

theorem placeCode_cmdIdentify (s : State) : placeCode (.device cmdIdentify) s =
    { s with op := .identifyDevice, fsm := .idCmd, host := .pass :: s.host } := rfl

/-- Settles O5: a host word reaches `exec` through the host port, the device command through the block's step in `ID_CMD`,
which is active. -/
theorem stepRunsTheDecodedInstruction : Obligations.StepRunsTheDecodedInstruction := by
  refine ⟨fun s w rest i => step_write_command, fun s hf => ⟨fun hh => ?_, fun rest hh => ?_, fun rest hh => ?_⟩⟩
  · rw [step_nil hh, blockStep_idCmd hf]
  · rw [step_pass hh, ← popHost_eq hh, blockStep_idCmd (s := popHost s) hf]
  · have hactive : s.active = true := active_eq_true.mpr (by simp [hf])
    rw [step_waitIdle hh, if_pos hactive, blockStep_idCmd hf]

/-- Settles O6: a host word is placed as the next write to CMD, and the device command, which only the byte 0xEC decodes to, in
`ID_CMD`. -/
theorem placedWordRunsNext : Obligations.PlacedWordRunsNext := by
  intro s nbits w i h
  obtain ⟨c, hc, hi⟩ := decodeTableWord_eq_some h
  rw [State.withFetchWord, hc]
  cases c with
  | host cmd =>
    have hne : i ≠ .ataIdentifyDevice := fun he => decodeHost_ne_ata cmd (he ▸ hi)
    rw [if_neg hne]
    exact step_write_command (s := placeCode (.host cmd) s) rfl hi
  | device code =>
    obtain ⟨rfl, rfl⟩ := decodeDevice_eq_ok hi
    rw [if_pos rfl]
    exact (step_pass (s := placeCode (.device cmdIdentify) s) rfl).trans (blockStep_idCmd rfl)

end Sys2Proof.Machine
end

section
/-! SUPPORT. The refusals (rules R211, R212): each row's condition makes the step its refusal, and a step that records a refusal
meets the row of its reason. -/

namespace Sys2Proof.Machine

section
variable {s t : State} {r : RefuseReason} {w : Word} {rest : List HostAction}

/-! ### From the row to the refusal -/

/-- While the block is active, the host's write to CMD is refused, whatever the word. -/
theorem hostCommand_of_active (w : Word) (hf : s.fsm ≠ .idle) :
    hostCommand w s = .next (refuse .commandWhileActive s) := by
  obtain ⟨i, hi, hc⟩ | ⟨e, -, hc⟩ := hostCommand_cases w s <;> rw [hc]
  · obtain ⟨t, ht⟩ := exec_next i s
    obtain ⟨-, rfl⟩ | ⟨hidle, -⟩ := exec_cases (fun he => decodeHost_ne_ata w (he ▸ hi)) ht
    · exact ht
    · exact absurd hidle hf
  · rw [accept_of_active hf]

theorem step_eq_refuse (h : refusalCondition r s) : step s = .next (refuse r (popHost s)) := by
  cases r with
  | commandWhileActive =>
    obtain ⟨w, rest, hh, hf⟩ := h
    rw [step_write hh, hostWrite, if_pos rfl, hostCommand_of_active (s := popHost s) w hf]
  | illegalCommand =>
    obtain ⟨w, rest, hh, hf, hw⟩ := h
    rw [step_write_illegal hh hf hw, popHost_eq hh]
  | reportErrorWithoutError =>
    obtain ⟨rest, hh, hf, hpre⟩ := h
    rw [step_write_command (i := .reportError) hh rfl, ← popHost_eq hh, exec_reportError_of_idle (s := popHost s) hf]
    exact congrArg Host.Outcome.next (if_neg hpre)
  | identifyWithoutDetect =>
    obtain ⟨rest, hh, hf, hd⟩ := h
    rw [step_write_command (i := .identifyDevice) hh rfl, ← popHost_eq hh, exec_identifyDevice_of_idle (s := popHost s) hf]
    exact congrArg Host.Outcome.next (if_neg (Bool.eq_false_iff.mp hd))
  | hostWriteNotCmd =>
    obtain ⟨a, v, rest, hh, ha⟩ := h
    rw [step_write hh, hostWrite_notCmd ha]
  | hostReadUnmapped =>
    obtain ⟨a, rest, hh, hn⟩ := h
    obtain ⟨v, hv, -⟩ | ⟨-, hr⟩ := hostRead_cases a (popHost s)
    · nomatch hn.symm.trans hv
    · rw [step_read hh, hr]

/-! ### From the refusal to the row -/

/-- The event of a refusal tells its reason. -/
theorem reason_of_trace {r' : RefuseReason} (h : (refuse r' (popHost s)).trace = .refused r :: s.trace) : r' = r := by
  simpa using h

/-- The block itself refuses nothing. -/
theorem BlockMove.trace_ne_refused (hm : BlockMove s t) : t.trace ≠ .refused r :: s.trace := by
  intro ht
  cases hm <;> simp at ht

/-- A legal host command that records a refusal meets the row of its reason. -/
theorem exec_refusal {i : Instr} (hh : s.host = .write 0x000 w :: rest) (hw : decodeHost w = .ok i)
    (he : exec i (popHost s) = .next t) (ht : t.trace = .refused r :: s.trace) : refusalCondition r s := by
  obtain ⟨hf, rfl⟩ | ⟨hf, hcase⟩ := exec_cases (fun hi => decodeHost_ne_ata w (hi ▸ hw)) he
  · obtain rfl := reason_of_trace ht
    exact ⟨w, rest, hh, hf⟩
  obtain ⟨-, rfl⟩ | ⟨-, -, -, rfl⟩ | ⟨rfl, hpre, rfl⟩ | ⟨_, -, rfl⟩ | ⟨-, -, rfl⟩ | ⟨rfl, hd, rfl⟩ := hcase
  · exact absurd ht (trace_ne_cons _ _)
  · exact absurd ht (trace_ne_cons _ _)
  · obtain rfl := reason_of_trace ht
    exact ⟨rest, decodeHost_reportError hw ▸ hh, hf, hpre⟩
  · exact absurd ht (trace_ne_cons _ _)
  · exact absurd ht (trace_ne_cons _ _)
  · obtain rfl := reason_of_trace ht
    exact ⟨rest, decodeHost_identifyDevice hw ▸ hh, hf, hd⟩

theorem refusalCondition_of_step (h : step s = .next t) (ht : t.trace = .refused r :: s.trace) : refusalCondition r s := by
  obtain ⟨u, rfl | rfl, hm⟩ | ⟨w, i, rest, hh, hw, he⟩ | ⟨r', hr, rfl⟩ | ⟨_, _, rfl⟩ | rfl | ⟨-, rfl⟩ := step_moves h
  · exact absurd ht hm.trace_ne_refused
  · exact absurd ht hm.trace_ne_refused
  · exact exec_refusal hh hw he ht
  · exact reason_of_trace ht ▸ hr
  all_goals exact absurd ht (trace_ne_cons _ _)

end

/-- Settles O10: a row makes the step its refusal (`step_eq_refuse`), and the refusal's event tells the row. -/
theorem refusalsAreExactlyThoseListed : Obligations.RefusalsAreExactlyThoseListed := fun _ _ =>
  ⟨step_eq_refuse, fun h => refusalCondition_of_step h rfl⟩

end Sys2Proof.Machine
end

section
/-! SUPPORT. The good end of a run (rules R66, R87, R234): what a step from it can do, and that a host which writes nothing and
reads mapped addresses never leaves it. -/

namespace Sys2Proof.Machine

section
variable {s t : State}

theorem any_isCommand_eq_false {l : List HostAction} :
    l.any HostAction.isCommand = false ↔ ∀ w : Word, HostAction.write 0x000 w ∉ l := by
  rw [List.any_eq_false]
  refine ⟨fun h w hw => h _ hw rfl, fun h action ha => ?_⟩
  cases action with
  | write a v =>
    rw [isCommand_write, decide_eq_true_eq]
    rintro rfl
    exact h v ha
  | read | waitIdle | pass | reset => exact Bool.false_ne_true

theorem goodEnd_iff : s.GoodEnd ↔ s.fsm = .idle ∧ s.refused = false ∧ ∀ w : Word, HostAction.write 0x000 w ∉ s.host := by
  rw [State.GoodEnd, any_isCommand_eq_false]

/-- A state in `IDLE` is at a good end if another one is and no host action is added. -/
theorem State.GoodEnd.of_subset (h : s.GoodEnd) (hf : t.fsm = .idle) (hr : t.refused = false) (hsub : t.host ⊆ s.host) :
    t.GoodEnd := by
  obtain ⟨-, -, hw⟩ := goodEnd_iff.mp h
  exact goodEnd_iff.mpr ⟨hf, hr, fun w hmem => hw w (hsub hmem)⟩

/-- Of a step's ways, a good end leaves those that run no command. -/
theorem State.GoodEnd.step (h : s.GoodEnd) (hs : step s = .next t) (hr : t.refused = false) :
    t.GoodEnd ∧ t.device = s.device ∧ t.trace = s.trace := by
  obtain ⟨hf, -, hw⟩ := goodEnd_iff.mp h
  have htail : s.host.tail ⊆ s.host := List.tail_subset _
  obtain ⟨u, rfl | rfl, hb⟩ | ⟨w, i, rest, hh, -, -⟩ | ⟨r, rfl⟩ | ⟨_, _, rfl⟩ | rfl | rfl := step_cases hs
  · obtain rfl := Host.Outcome.next.inj ((blockStep_idle hf).symm.trans hb)
    exact ⟨h, rfl, rfl⟩
  · obtain rfl := Host.Outcome.next.inj ((blockStep_idle (s := popHost s) hf).symm.trans hb)
    exact ⟨h.of_subset hf hr htail, rfl, rfl⟩
  · exact absurd (hh ▸ List.mem_cons_self) (hw w)
  · nomatch hr
  · exact ⟨h.of_subset hf hr htail, rfl, rfl⟩
  · exact ⟨h.of_subset hf hr htail, rfl, rfl⟩
  · exact ⟨h.of_subset rfl hr htail, rfl, rfl⟩

/-! ### A host that is never refused -/

/-- Whether an address is mapped does not depend on the state (rule R74). -/
theorem hostReg_eq_none_congr (a : Nat) (s t : State) : hostReg a s = none ↔ hostReg a t = none :=
  (unmappedHostAddresses s a).trans (unmappedHostAddresses t a).symm

/-- A good end at which the host's coming actions hold no write and no read of an address without a register. -/
structure State.Undisturbed (s : State) : Prop where
  goodEnd : s.GoodEnd
  no_write : ∀ a v, HostAction.write a v ∉ s.host
  reads_mapped : ∀ a, HostAction.read a ∈ s.host → hostReg a s ≠ none

theorem State.Undisturbed.of_subset (h : s.Undisturbed) (hf : t.fsm = .idle) (hr : t.refused = s.refused)
    (hsub : t.host ⊆ s.host) : t.Undisturbed where
  goodEnd := h.goodEnd.of_subset hf (hr.trans h.goodEnd.2.1) hsub
  no_write a v hw := h.no_write a v (hsub hw)
  reads_mapped a ha := (hostReg_eq_none_congr a t s).not.mpr (h.reads_mapped a (hsub ha))

theorem State.Undisturbed.step_next (h : s.Undisturbed) : ∃ t, Machine.step s = .next t ∧ t.Undisturbed := by
  have hf : s.fsm = .idle := h.goodEnd.1
  have htail : s.host.tail ⊆ s.host := List.tail_subset _
  cases hh : s.host with
  | nil => exact ⟨s, (step_nil hh).trans (blockStep_idle hf), h⟩
  | cons action rest =>
    have hmem : action ∈ s.host := hh ▸ List.mem_cons_self
    cases action with
    | write a v => exact absurd hmem (h.no_write a v)
    | read a =>
      obtain ⟨v, hv⟩ := Option.ne_none_iff_exists'.mp (h.reads_mapped a hmem)
      refine ⟨{ popHost s with hostLog := (a, v) :: s.hostLog }, ?_, h.of_subset hf rfl htail⟩
      rw [step_read hh, hostRead_mapped ((hostReg_popHost a s).trans hv), popHost_hostLog]
    | waitIdle =>
      have hinactive : ¬s.active = true := Bool.eq_false_iff.mp (active_eq_false.mpr hf)
      exact ⟨popHost s, (step_waitIdle hh).trans (if_neg hinactive), h.of_subset hf rfl htail⟩
    | pass => exact ⟨popHost s, (step_pass hh).trans (blockStep_idle hf), h.of_subset hf rfl htail⟩
    | reset => exact ⟨assertReset (popHost s), step_reset hh, h.of_subset rfl rfl htail⟩

end

/-- Settles O60: the commands left are the writes to CMD; a step from a good end runs none; and no step of an undisturbed good
end is refused (`State.Undisturbed.step_next`). -/
theorem goodEndIsKept : Obligations.GoodEndIsKept :=
  ⟨fun _ => goodEnd_iff, fun _ _ h => h.step, fun _ h hw hr k =>
    (steps_next (fun _ => State.Undisturbed.step_next) k ⟨h, hw, hr⟩).imp fun _ ⟨hk, ht⟩ => ⟨hk, ht.goodEnd⟩⟩

end Sys2Proof.Machine
end

section
/-! SUPPORT. A DETECT_DRIVE always ends, whatever the device answers, if every delay completes (rules R151, R214): from the end of
the operation back to its start, one state at a time. -/

namespace Sys2Proof.Machine

/-- Some number of steps leads to the end of a DETECT_DRIVE (rule R148). -/
def State.DetectEnds (s : State) : Prop := ∃ t, Reaches s t ∧ t.fsm = .idle ∧ t.op = .none ∧ t.detected = t.detectOk

/-- The outside leaves the block alone, the attempts are in the budget, and the listed delays all complete and are enough: one
for each attempt left, and `pending` more. -/
structure State.Served (s : State) (pending : Nat) : Prop where
  host : s.host = []
  nDiscard : 1 ≤ s.params.nDiscard
  attempts_le : s.attempts ≤ s.budget
  delays_end : ∀ d ∈ s.delays, d ≠ none
  delays_enough : s.budget + pending ≤ s.attempts + s.delays.length

/-- Every attempt that begins with `n` delays listed leads to the end of its DETECT_DRIVE. -/
def AttemptsEnd (n : Nat) : Prop :=
  ∀ s : State, s.Served 0 → s.fsm = .ddSelect → s.attempts < s.budget → s.delays.length = n → s.DetectEnds

section
variable {s t : State}

theorem State.DetectEnds.of_reaches (h : Reaches s t) (ht : t.DetectEnds) : s.DetectEnds := by
  obtain ⟨u, hu, hend⟩ := ht
  exact ⟨u, h.trans hu, hend⟩

/-! ### The end and the read-back test -/

theorem detectEnds_of_ddDone (hf : s.fsm = .ddDone) (hh : s.host = []) : s.DetectEnds :=
  ⟨stepDdDone s, reaches_stepDdDone hf hh, rfl, rfl, rfl⟩

theorem detectEnds_of_ddRbR2 (hf : s.fsm = .ddRbR2) (hh : s.host = []) : s.DetectEnds :=
  .of_reaches (.of_blockStep hh (blockStep_ddRbR2 hf)) (detectEnds_of_ddDone rfl hh)

theorem detectEnds_of_ddRbW2 (hf : s.fsm = .ddRbW2) (hh : s.host = []) : s.DetectEnds :=
  .of_reaches (.of_blockStep hh (blockStep_ddRbW2 hf)) (detectEnds_of_ddRbR2 rfl hh)

theorem detectEnds_of_ddRbR1 (hf : s.fsm = .ddRbR1) (hh : s.host = []) : s.DetectEnds := by
  have hstep : Reaches s (stepDdRbR1 s) := .of_blockStep hh (blockStep_ddRbR1 hf)
  by_cases hb : readByte .cylLow s = 0x12#8
  · rw [stepDdRbR1_matches hb] at hstep
    exact .of_reaches hstep (detectEnds_of_ddRbW2 rfl hh)
  · rw [stepDdRbR1_fails hb] at hstep
    exact .of_reaches hstep (detectEnds_of_ddDone rfl hh)

theorem detectEnds_of_ddRbW1 (hf : s.fsm = .ddRbW1) (hh : s.host = []) : s.DetectEnds :=
  .of_reaches (.of_blockStep hh (blockStep_ddRbW1 hf)) (detectEnds_of_ddRbR1 rfl hh)

/-! ### The backoff, under the claim for the attempts after it -/

namespace State.Served

theorem detectEnds_of_ddWait {n : Nat} (h : s.Served 0) (hn : AttemptsEnd s.delays.length) (hf : s.fsm = .ddWait)
    (hd : s.delayLeft = some n) : s.DetectEnds := by
  have hwait := reaches_afterDelay hf h.host hd
  by_cases ha : s.attempts < s.budget
  · rw [afterDelay_retries ha] at hwait
    exact .of_reaches hwait (hn _ { h with } rfl ha rfl)
  · rw [afterDelay_givesUp (Nat.le_of_not_lt ha)] at hwait
    exact .of_reaches hwait (detectEnds_of_ddDone rfl h.host)

theorem detectEnds_of_ddBackoff (h : s.Served 1) (hn : AttemptsEnd (s.delays.length - 1)) (hf : s.fsm = .ddBackoff) :
    s.DetectEnds := by
  have henough := h.delays_enough
  have hle := h.attempts_le
  obtain ⟨d, rest, hd⟩ := List.exists_cons_of_length_pos (l := s.delays) (by omega)
  obtain ⟨n, rfl⟩ := Option.ne_none_iff_exists'.mp (h.delays_end d (hd ▸ List.mem_cons_self))
  have hleft : (stepDdBackoff s).delays = rest := congrArg List.tail hd
  have hanswer : delayAnswer s = some n := by rw [delayAnswer, hd]
  have hserved : (stepDdBackoff s).Served 0 :=
    { h with
      delays_end := fun d hmem => h.delays_end d (List.mem_of_mem_tail hmem)
      delays_enough := by
        rw [hleft]
        rw [hd, List.length_cons] at henough
        exact Nat.le_of_succ_le_succ henough }
  rw [hd, List.length_cons, Nat.add_sub_cancel, ← hleft] at hn
  exact .of_reaches (.of_blockStep h.host (blockStep_ddBackoff hf)) (hserved.detectEnds_of_ddWait hn rfl hanswer)

theorem detectEnds_of_ddEval (h : s.Served 1) (hn : AttemptsEnd (s.delays.length - 1)) (hf : s.fsm = .ddEval) :
    s.DetectEnds := by
  have hstep : Reaches s (stepDdEval s) := .of_blockStep h.host (blockStep_ddEval hf)
  by_cases hl : s.lastClass = .notReady
  · rw [stepDdEval_notReady hl] at hstep
    exact .of_reaches hstep (detectEnds_of_ddBackoff (s := goto .ddBackoff s) { h with } hn rfl)
  by_cases hr : s.lastClass = .ready
  · rw [stepDdEval_ready hr] at hstep
    exact .of_reaches hstep (detectEnds_of_ddRbW1 rfl h.host)
  · rw [stepDdEval_fails hl hr] at hstep
    exact .of_reaches hstep (detectEnds_of_ddDone rfl h.host)

/-! ### The poll of an attempt -/

theorem detectEnds_of_psDone (h : s.Served 1) (hn : AttemptsEnd (s.delays.length - 1)) (hf : s.fsm = .psDone)
    (hc : s.psCtx = .detect) : s.DetectEnds :=
  have hstep : Reaches s (goto .ddEval s) := .of_blockStep h.host (by rw [blockStep_psDone hf, stepPsDone_detect hc])
  .of_reaches hstep (detectEnds_of_ddEval (s := goto .ddEval s) { h with } hn rfl)

/-- Between two reads of the poll, the reads left lead to its end. -/
theorem detectEnds_of_nextRead (h : s.Served 1) (hn : AttemptsEnd (s.delays.length - 1)) (hf : s.fsm = nextRead s)
    (hp : s.psCount ≤ s.params.nDiscard) (hc : s.psCtx = .detect) : s.DetectEnds := by
  obtain ⟨vs, b, -, -, hsteps⟩ := steps_polled (s.params.nDiscard - s.psCount) h.host (Nat.add_sub_cancel' hp) hf
  exact .of_reaches ⟨_, hsteps⟩ (detectEnds_of_psDone (s := s.polled vs b) { h with } hn rfl hc)

theorem detectEnds_of_psSettle (h : s.Served 1) (hn : AttemptsEnd (s.delays.length - 1)) (hf : s.fsm = .psSettle)
    (hp : s.psCount ≤ s.params.nDiscard) (hc : s.psCtx = .detect) : s.DetectEnds :=
  .of_reaches (.of_blockStep h.host (blockStep_psSettle hf))
    (detectEnds_of_nextRead (s := stepPsSettle s) { h with } hn rfl hp hc)

end State.Served

/-! ### The attempts -/

/-- By induction on the number of delays listed: an attempt that does not end the detection takes one. -/
theorem attemptsEnd (n : Nat) : AttemptsEnd n := by
  induction n with
  | zero =>
    intro s h hf ha hn
    have henough := h.delays_enough
    omega
  | succ n ih =>
    intro s h hf ha hn
    have hserved : (stepDdSelect s).Served 1 :=
      { h with
        attempts_le := ha
        delays_enough := by simpa [stepDdSelect, Nat.add_right_comm] using h.delays_enough }
    have hlen : (stepDdSelect s).delays.length - 1 = n := Nat.sub_eq_of_eq_add hn
    exact .of_reaches (.of_blockStep h.host (blockStep_ddSelect hf))
      (hserved.detectEnds_of_nextRead (hlen ▸ ih) (if_pos h.nDiscard).symm (Nat.zero_le _) rfl)

/-- The operation a state of a poll belongs to is DETECT_DRIVE only in its context. -/
theorem psCtx_eq_detect {p : PsCtx} {e : ErCtx} (h : opOf .psRead p e = .detectDrive) : p = .detect := by
  cases p with
  | detect => rfl
  | host | idPre | idPost => nomatch h

/-- An ErrorReport belongs to no DETECT_DRIVE. -/
theorem opOf_erRead_ne {p : PsCtx} {e : ErCtx} : opOf .erRead p e ≠ .detectDrive := by
  cases e <;> exact nofun

/-- From every state of a DETECT_DRIVE but the start of an attempt. -/
theorem State.Served.detectEnds (h : s.Served 1) (hi : s.Inv) (hop : s.op = .detectDrive) (hs : s.fsm ≠ .ddSelect)
    (hw : s.fsm = .ddWait → s.delayLeft ≠ none) : s.DetectEnds := by
  have hctx := hi.op_eq.symm.trans hop
  have hn := attemptsEnd (s.delays.length - 1)
  have hpoll : opOf .psRead s.psCtx s.erCtx = .detectDrive → s.psCtx = .detect := psCtx_eq_detect
  have hreport : opOf .erRead s.psCtx s.erCtx ≠ .detectDrive := opOf_erRead_ne
  cases hf : s.fsm <;> rw [hf] at hctx
  case psRead =>
    have hmore : s.psCount < s.params.nDiscard := hi.psCount_read hf
    exact h.detectEnds_of_nextRead hn (hf.trans (if_pos hmore).symm) hi.psCount_le (hpoll hctx)
  case psAuth =>
    have hlast : ¬s.psCount < s.params.nDiscard := (hi.psCount_auth hf).not_lt
    exact h.detectEnds_of_nextRead hn (hf.trans (if_neg hlast).symm) hi.psCount_le (hpoll hctx)
  case psSettle => exact h.detectEnds_of_psSettle hn hf hi.psCount_le (hpoll hctx)
  case psDone => exact h.detectEnds_of_psDone hn hf (hpoll hctx)
  case ddSelect => exact absurd hf hs
  case ddEval => exact h.detectEnds_of_ddEval hn hf
  case ddBackoff => exact h.detectEnds_of_ddBackoff hn hf
  case ddWait =>
    obtain ⟨n, hd⟩ := Option.ne_none_iff_exists'.mp (hw hf)
    exact State.Served.detectEnds_of_ddWait { h with delays_enough := Nat.le_of_succ_le h.delays_enough } (attemptsEnd _) hf hd
  case ddRbW1 => exact detectEnds_of_ddRbW1 hf h.host
  case ddRbR1 => exact detectEnds_of_ddRbR1 hf h.host
  case ddRbW2 => exact detectEnds_of_ddRbW2 hf h.host
  case ddRbR2 => exact detectEnds_of_ddRbR2 hf h.host
  case ddDone => exact detectEnds_of_ddDone hf h.host
  case erRead | erEmit | erDone => exact absurd hctx hreport
  all_goals nomatch hctx

end

/-- Settles O35: five delays serve the attempts left, of a budget of at most five; past the first select write one attempt has
been made, and its own request is the one more. -/
theorem detectDriveAlwaysEnds : Obligations.DetectDriveAlwaysEnds := by
  intro s hi hop hh hlen hends hwait
  have hbudget := hi.ranges.budget_le
  have hserved : ∀ n, n ≤ s.attempts → s.Served n := fun n hn =>
    { host := hh
      nDiscard := hi.ranges.nDiscard_pos
      attempts_le := hi.attempts_budget hop
      delays_end := hends
      delays_enough := by omega }
  have hend : s.DetectEnds := by
    by_cases hf : s.fsm = .ddSelect
    · exact attemptsEnd _ s (hserved 0 (Nat.zero_le _)) hf (hi.attempts_select hf) rfl
    · exact (hserved 1 (hi.attempts_pos hop hf)).detectEnds hi hop hf hwait
  obtain ⟨t, ⟨k, hk⟩, ht⟩ := hend
  exact ⟨k, t, hk, ht⟩

end Sys2Proof.Machine
end

section
/-! SUPPORT. A device that stays Busy keeps IDENTIFY_DEVICE in the loop it is in (rules R171, R173, R218): one round is a whole
PollStatus sequence and the way back to its start, and there are as many rounds as the answers allow. -/

namespace Sys2Proof.Machine

/-- A Busy poll in the context of `s` logs a BusyIteration before the next one: always before the device command, and after it
with `LOG_POST_BUSY` (rules R171, R173). -/
def State.logsBusy (s : State) : Bool := decide (s.psCtx = .idPre) || s.params.logPostBusy

/-- The start of the next poll after a Busy one. -/
def State.pollsAgain (s : State) : State := startPoll s.psCtx (if s.logsBusy then emit .busyIteration s else s)

/-- The start of a poll of IDENTIFY_DEVICE, with nothing to come from the outside. -/
structure State.LoopStart (s : State) : Prop where
  fsm : s.fsm = .psRead
  psCount : s.psCount = 0
  psCtx : s.psCtx = .idPre ∨ s.psCtx = .idPost
  host : s.host = []
  nDiscard : 1 ≤ s.params.nDiscard

/-- The device's listed answers are those to `m` polls, and all classify Busy. -/
structure State.FacesBusy (s : State) (m : Nat) : Prop where
  draws_length : s.draws.length = m * (s.params.nDiscard + 1)
  draws_busy : ∀ v ∈ s.draws, classify (lo8 v) = .busy

/-- `t` is at the start of a poll again, after `m` rounds of the loop from `s`. -/
structure State.Looped (s : State) (m : Nat) (t : State) : Prop where
  start : t.LoopStart
  psCtx : t.psCtx = s.psCtx
  params : t.params = s.params
  op : t.op = s.op
  busyIterations : countEvents isBusyIteration t.trace = m * s.logsBusy.toNat + countEvents isBusyIteration s.trace
  statusReads : countEvents isStatusRead t.trace = m * (s.params.nDiscard + 1) + countEvents isStatusRead s.trace

section
variable {s t u : State} {m k : Nat}

theorem State.logsBusy_idPre (hc : s.psCtx = .idPre) : s.logsBusy = true := by simp [logsBusy, hc]

theorem State.logsBusy_idPost (hc : s.psCtx = .idPost) : s.logsBusy = s.params.logPostBusy := by simp [logsBusy, hc]

/-! ### The way back to the start of the poll -/

theorem State.pollsAgain_idPre (hc : s.psCtx = .idPre) : s.pollsAgain = startPoll .idPre (emit .busyIteration s) := by
  rw [pollsAgain, logsBusy_idPre hc, if_pos rfl, hc]

theorem State.pollsAgain_idPost (hc : s.psCtx = .idPost) :
    s.pollsAgain = startPoll .idPost (if s.params.logPostBusy then emit .busyIteration s else s) := by
  rw [pollsAgain, logsBusy_idPost hc, hc]

/-- Out of a Busy poll: the dispatch, and the step of the log where there is one. -/
theorem steps_pollsAgain (hf : s.fsm = .psDone) (hc : s.psCtx = .idPre ∨ s.psCtx = .idPost) (hl : s.lastClass = .busy)
    (hh : s.host = []) : steps (1 + s.logsBusy.toNat) s = .next s.pollsAgain := by
  have hdone : step s = .next (stepPsDone s) := (step_nil hh).trans (blockStep_psDone hf)
  obtain hc | hc := hc
  · have hlog : step (goto .idPreLog s) = .next (stepIdPreLog (goto .idPreLog s)) :=
      (step_nil (s := goto .idPreLog s) hh).trans (blockStep_idPreLog rfl)
    rw [stepPsDone_idPre hc, afterPrePoll_busy hl] at hdone
    rw [State.logsBusy_idPre hc, State.pollsAgain_idPre hc]
    exact (steps_succ hdone 1).trans (steps_succ hlog 0)
  · rw [stepPsDone_idPost hc, afterPostPoll_busy hl] at hdone
    rw [State.logsBusy_idPost hc, State.pollsAgain_idPost hc]
    cases hp : s.params.logPostBusy <;> rw [hp] at hdone
    · exact steps_succ hdone 0
    · have hlog : step (goto .idPostLog s) = .next (stepIdPostLog (goto .idPostLog s)) :=
        (step_nil (s := goto .idPostLog s) hh).trans (blockStep_idPostLog rfl)
      exact (steps_succ hdone 1).trans (steps_succ hlog 0)

theorem State.pollsAgain_params (s : State) : s.pollsAgain.params = s.params := by
  unfold pollsAgain
  split <;> rfl

theorem State.pollsAgain_op (s : State) : s.pollsAgain.op = s.op := by
  unfold pollsAgain
  split <;> rfl

theorem State.pollsAgain_host (s : State) : s.pollsAgain.host = s.host := by
  unfold pollsAgain
  split <;> rfl

theorem State.pollsAgain_draws (s : State) : s.pollsAgain.draws = s.draws := by
  unfold pollsAgain
  split <;> rfl

theorem State.countEvents_pollsAgain (p : Event → Bool) (s : State) :
    countEvents p s.pollsAgain.trace = (s.logsBusy && p (.emit .busyIteration)).toNat + countEvents p s.trace := by
  rw [pollsAgain, startPoll_trace]
  cases s.logsBusy
  · exact (Nat.zero_add _).symm
  · exact countEvents_cons ..

/-! ### One round, and several -/

theorem State.Looped.refl (h : s.LoopStart) : s.Looped 0 s where
  start := h
  psCtx := rfl
  params := rfl
  op := rfl
  busyIterations := by rw [Nat.zero_mul, Nat.zero_add]
  statusReads := by rw [Nat.zero_mul, Nat.zero_add]

theorem State.Looped.logsBusy (h : s.Looped m t) : t.logsBusy = s.logsBusy := by
  rw [State.logsBusy, h.psCtx, h.params, State.logsBusy]

theorem State.Looped.trans (h₁ : s.Looped m t) (h₂ : t.Looped k u) : s.Looped (m + k) u where
  start := h₂.start
  psCtx := h₂.psCtx.trans h₁.psCtx
  params := h₂.params.trans h₁.params
  op := h₂.op.trans h₁.op
  busyIterations := by
    rw [h₂.busyIterations, h₁.busyIterations, h₁.logsBusy, Nat.add_mul]
    omega
  statusReads := by
    rw [h₂.statusReads, h₁.statusReads, h₁.params, Nat.add_mul]
    omega

/-- A poll of all its discard reads that ends Busy, and the way back, is one round. -/
theorem State.LoopStart.looped {vs : List Byte} {b : Byte} (h : s.LoopStart) (hlen : vs.length = s.params.nDiscard) :
    s.Looped 1 (s.polled vs b).pollsAgain where
  start :=
    { fsm := rfl
      psCount := rfl
      psCtx := h.psCtx
      host := (pollsAgain_host _).trans h.host
      nDiscard := (pollsAgain_params _).symm ▸ h.nDiscard }
  psCtx := rfl
  params := pollsAgain_params _
  op := pollsAgain_op _
  busyIterations := by
    have hlog : ((s.polled vs b).logsBusy && isBusyIteration (.emit .busyIteration)) = s.logsBusy := Bool.and_true _
    have hpoll : countEvents isBusyIteration (s.polled vs b).trace = _ :=
      countEvents_pollTrace (isRead := false) _ vs b s.trace rfl (fun _ => rfl)
    rw [countEvents_pollsAgain, hlog, hpoll, Bool.toNat_false, Nat.mul_zero, Nat.zero_add, Nat.one_mul]
  statusReads := by
    have hlog : ((s.polled vs b).logsBusy && isStatusRead (.emit .busyIteration)) = false := Bool.and_false _
    have hpoll : countEvents isStatusRead (s.polled vs b).trace = _ :=
      countEvents_pollTrace (isRead := true) _ vs b s.trace rfl (fun _ => rfl)
    rw [countEvents_pollsAgain, hlog, hpoll, hlen, Bool.toNat_false, Bool.toNat_true, Nat.mul_one, Nat.zero_add, Nat.one_mul]

/-- The authoritative read is one of the listed answers, if there are enough of them. -/
theorem ReadFrom.exists_mem {draws : List Word} {vs : List Byte} {b : Byte} (h : ReadFrom draws (vs ++ [b]))
    (hlt : vs.length < draws.length) : ∃ v ∈ draws, b = lo8 v :=
  ⟨draws[vs.length], List.getElem_mem hlt, h.eq_lo8 (List.getElem?_eq_getElem hlt)⟩

/-- The first of the rounds takes the answers to its poll. -/
theorem State.LoopStart.steps_round (h : s.LoopStart) (hb : s.FacesBusy (m + 1)) :
    ∃ t, steps (2 * s.params.nDiscard + 2 + s.logsBusy.toNat) s = .next t ∧ s.Looped 1 t ∧ t.FacesBusy m := by
  obtain ⟨vs, b, hlen, hreads, hpoll⟩ := steps_polled_of_start h.fsm h.psCount h.host h.nDiscard
  have hlt : vs.length < s.draws.length := by
    rw [hb.draws_length, hlen]
    exact Nat.le_mul_of_pos_left _ m.succ_pos
  obtain ⟨v, hv, rfl⟩ := hreads.exists_mem hlt
  have hback := steps_pollsAgain (s := s.polled vs (lo8 v)) rfl h.psCtx (hb.draws_busy v hv) h.host
  have hparams : (s.polled vs (lo8 v)).pollsAgain.params = s.params := State.pollsAgain_params _
  have hleft : (s.polled vs (lo8 v)).pollsAgain.draws = s.draws.drop (s.params.nDiscard + 1) :=
    hlen ▸ State.pollsAgain_draws _
  refine ⟨(s.polled vs (lo8 v)).pollsAgain, ?_, h.looped hlen, ?_, fun w hw => ?_⟩
  · rw [← hback, ← steps_add hpoll, ← Nat.add_assoc]
    rfl
  · rw [hleft, hparams, List.length_drop, hb.draws_length, Nat.succ_mul, Nat.add_sub_cancel]
  · exact hb.draws_busy w (List.mem_of_mem_drop (hleft ▸ hw))

/-- By induction on the number of rounds the answers allow. -/
theorem State.LoopStart.steps_looped (h : s.LoopStart) (hb : s.FacesBusy m) :
    ∃ t, steps (m * (2 * s.params.nDiscard + 2 + s.logsBusy.toNat)) s = .next t ∧ s.Looped m t ∧ t.draws = [] := by
  induction m generalizing s with
  | zero =>
    refine ⟨s, by rw [Nat.zero_mul, steps_zero], .refl h, List.length_eq_zero_iff.mp ?_⟩
    rw [hb.draws_length, Nat.zero_mul]
  | succ m ih =>
    obtain ⟨u, hround, hu, hub⟩ := h.steps_round hb
    obtain ⟨t, hrest, ht, hd⟩ := ih hu.start hub
    rw [hu.params, hu.logsBusy] at hrest
    refine ⟨t, ?_, Nat.add_comm 1 m ▸ hu.trans ht, hd⟩
    rw [Nat.succ_mul, Nat.add_comm, steps_add hround, hrest]

/-- The rounds, with what they add to the trace. -/
theorem State.LoopStart.exists_rounds (h : s.LoopStart) (hb : s.FacesBusy m) : ∃ (t : State) (new : List Event),
    steps (m * (2 * s.params.nDiscard + 2 + s.logsBusy.toNat)) s = .next t ∧
    t.fsm = .psRead ∧ t.psCtx = s.psCtx ∧ t.psCount = 0 ∧ t.op = s.op ∧ t.draws = [] ∧ t.trace = new ++ s.trace ∧
    countEvents isBusyIteration new = m * s.logsBusy.toNat ∧
    countEvents isStatusRead new = m * (s.params.nDiscard + 1) := by
  obtain ⟨t, hsteps, ht, hd⟩ := h.steps_looped hb
  obtain ⟨new, hnew⟩ := steps_trace_suffix hsteps
  have hbusy := ht.busyIterations
  have hreads := ht.statusReads
  rw [← hnew, countEvents_append] at hbusy hreads
  exact ⟨t, new, hsteps, ht.start.fsm, ht.psCtx, ht.start.psCount, ht.op, hd, hnew.symm, Nat.add_right_cancel hbusy,
    Nat.add_right_cancel hreads⟩

end

/-- Settles O39: the rounds of `exists_rounds`, in the pre-command loop with a log in each, and in the post-command loop with one
where `LOG_POST_BUSY` says so. -/
theorem busyDeviceKeepsTheLoop : Obligations.BusyDeviceKeepsTheLoop := by
  intro m s hf hp hh hn hlen hbusy
  have hrounds : s.psCtx = .idPre ∨ s.psCtx = .idPost → _ := fun hc =>
    State.LoopStart.exists_rounds (m := m) ⟨hf, hp, hc, hh, hn⟩ ⟨hlen, hbusy⟩
  refine ⟨fun hc => ?_, fun hc => ?_⟩
  · have hpre := hrounds (.inl hc)
    rw [State.logsBusy_idPre hc, hc] at hpre
    simpa using hpre
  · have hpost := hrounds (.inr hc)
    rw [State.logsBusy_idPost hc, hc] at hpost
    cases hlog : s.params.logPostBusy <;> simpa [hlog] using hpost

end Sys2Proof.Machine
end

section
/-! SUPPORT. Reset and hazards (rules R240 to R249): a command written while the block is active, the device's registers, which
follow the recorded writes and nothing else (rule R150), and what the reset input leaves. -/

namespace Sys2Proof.Machine

/-- Settles O9: the row of rule R212 for a write to CMD of an active block makes the step its refusal. -/
theorem commandWhileActiveIsRefused : Obligations.CommandWhileActiveIsRefused := by
  intro s w rest hh hf
  rw [step_eq_refuse (r := .commandWhileActive) ⟨w, rest, hh, hf⟩, popHost_eq hh, refuse]

/-! ### The device's registers -/

section
variable {s t : State}

/-- A device write recorded by a move of the block has reached its register of the device. -/
theorem BlockMove.device_eq_write {r : DevReg} {n : Nat} {v : Word} (hm : BlockMove s t)
    (ht : t.trace = .memWrite r n v :: s.trace) : t.device = s.device.write r v := by
  cases hm
  case ddSelect | ddRbW1 | ddRbW2 | idCmd =>
    cases ht
    rfl
  all_goals simp at ht

/-- A move of the block that records no device write leaves the device's registers. -/
theorem BlockMove.device_eq (hm : BlockMove s t) (ht : ∀ r n v, t.trace ≠ .memWrite r n v :: s.trace) :
    t.device = s.device := by
  cases hm
  case ddSelect | ddRbW1 | ddRbW2 | idCmd => exact absurd rfl (ht _ _ _)
  all_goals rfl

/-- A host command leaves the device's registers, whether it is accepted or refused. -/
theorem exec_device {i : Instr} (hi : i ≠ .ataIdentifyDevice) (h : exec i s = .next t) : t.device = s.device := by
  obtain ⟨-, rfl⟩ | ⟨-, ⟨-, rfl⟩ | ⟨-, -, -, rfl⟩ | ⟨-, -, rfl⟩ | ⟨_, -, rfl⟩ | ⟨-, -, rfl⟩ | ⟨-, -, rfl⟩⟩ :=
    exec_cases hi h <;> rfl

end

/-- Settles O52: a recorded device write is a move of the block (`step_event`), which writes that register; a move without one, a
command and every host action, the reset input included, leave the device. -/
theorem deviceKeepsTheLastWrites : Obligations.DeviceKeepsTheLastWrites := by
  refine fun s t h => ⟨fun r n v ht => ?_, fun ht => ?_⟩
  · obtain ⟨r, hr⟩ | ⟨u, rfl | rfl, hm⟩ := step_event h ht
    · nomatch hr
    · exact hm.device_eq_write ht
    · exact hm.device_eq_write ht
  · obtain ⟨u, rfl | rfl, hm⟩ | ⟨w, i, -, -, hw, he⟩ | ⟨r, -, rfl⟩ | ⟨_, _, rfl⟩ | rfl | ⟨-, rfl⟩ := step_moves h
    · exact hm.device_eq ht
    · exact hm.device_eq ht
    · exact (exec_device (fun hi => decodeHost_ne_ata w (hi ▸ hw)) he).trans (popHost_device s)
    all_goals rfl

/-! ### The reset input -/

/-- After the reset input CSR shows the refusal mark and nothing else: every other field is a counter or a bit that is 0, or
reads 0 behind its valid bit (rule R75). -/
theorem csr_assertReset (s : State) : csr (assertReset s) = if s.refused then 0x0002#16 else 0x0000#16 := by
  have hmark : csr (assertReset s) = flag 1 s.refused := by
    simp [csr, State.active, State.reset, flag, field]
  rw [hmark]
  cases s.refused <;> rfl

/-- Settles O55: the step is `assertReset`, whose registers are those of rule R39, and CSR follows. -/
theorem resetInput : Obligations.ResetInput := by
  intro s rest hh
  refine ⟨_, step_reset hh, ?_, rfl, rfl, rfl, rfl, rfl, rfl, rfl, rfl, rfl, rfl, rfl, rfl, rfl, rfl, rfl, rfl,
    csr_assertReset _⟩
  rw [assertReset_host, popHost_eq hh]

end Sys2Proof.Machine
end

section
/-! SUPPORT. The turns that are the block's own (rules R220, R221, log entry 1), and the counts of the status bytes by class (rule
R102). -/

namespace Sys2Proof.Machine

theorem step_waitIdle_of_active {s : State} {rest : List HostAction} (h : s.host = .waitIdle :: rest) (hf : s.fsm ≠ .idle) :
    step s = blockStep s := by
  rw [step_waitIdle h, if_pos (active_eq_true.mpr hf)]

theorem step_waitIdle_of_idle {s : State} {rest : List HostAction} (h : s.host = .waitIdle :: rest) (hf : s.fsm = .idle) :
    step s = .next (popHost s) := by
  rw [step_waitIdle h, active_eq_false.mpr hf, if_neg Bool.false_ne_true]

/-- Settles O7: the equation of a step for each of these turns; what takes the host's action is `popHost`. -/
theorem turnsOfTheAgents : Obligations.TurnsOfTheAgents := by
  refine fun s => ⟨step_nil, fun rest hh => ?_, fun rest => step_waitIdle_of_active, fun rest hh hf => ?_⟩
  · rw [step_pass hh, popHost_eq hh]
  · rw [step_waitIdle_of_idle hh hf, popHost_eq hh]

/-- Settles O20: for each class, a count over the 256 bytes, which `classify` evaluates. -/
theorem classifyCounts : Obligations.ClassifyCounts := by
  intro c
  cases c <;> decide

end Sys2Proof.Machine
end
